-- ==== Sys2Proof/Word.lean ====
section
/-! DEFINITION. The plain data the Mantulo 416 model is built from: bytes, the wrapping 16-bit
numbers, handset IDs, blocks of samples, time, and tables of a fixed number of places. -/

namespace Sys2Proof

/-- One byte of a frame or an air port transfer (spec 11). -/
abbrev Byte := BitVec 8

/-- A superframe number: an unsigned 16-bit count that wraps (spec 00, "Superframe numbers"). -/
abbrev Superframe := BitVec 16

/-- A stream sequence number: 16 bits, wrapping (spec 00, "Sequence comparison"). -/
abbrev SeqNumber := BitVec 16

/-- A 24-bit handset ID; 0 stands for no handset (spec 00, "Handset IDs and kinds"). -/
abbrev HandsetId := BitVec 24

/-- A time on the 416's own time base, in microseconds (DESIGN CHOICE, log 1). -/
abbrev Time := Nat

/-- A block: 160 signed samples (spec 00, "Block"). -/
abbrev Block := List Int

/-- A table with exactly `n` places, numbered from 0. -/
structure Table (n : Nat) (α : Type) where
  /-- The places in ascending number. -/
  rows : List α
  /-- There are `n` of them. -/
  size_eq : rows.length = n
deriving DecidableEq, Repr

namespace Table

variable {n : Nat} {α β : Type}

/-- What stands at place `i`. -/
def get (t : Table n α) (i : Fin n) : α := t.rows.get (i.cast t.size_eq.symm)

/-- The table with `a` at place `i`. -/
def set (t : Table n α) (i : Fin n) (a : α) : Table n α :=
  ⟨t.rows.set i.val a, by simp [t.size_eq]⟩

/-- The table with place `i` changed by `f`. -/
def modify (t : Table n α) (i : Fin n) (f : α → α) : Table n α := t.set i (f (t.get i))

/-- The table with the same value at every place. -/
def fill (n : Nat) (a : α) : Table n α := ⟨List.replicate n a, by simp⟩

/-- Every place changed by `f`. -/
def map (f : α → β) (t : Table n α) : Table n β := ⟨t.rows.map f, by simp [t.size_eq]⟩

/-- The table whose place `i` holds `f i`. -/
def build (n : Nat) (f : Fin n → α) : Table n α := ⟨(List.finRange n).map f, by simp⟩

/-- The lowest-numbered place whose content passes `p`. -/
def find (t : Table n α) (p : α → Bool) : Option (Fin n) :=
  if h : t.rows.findIdx p < n then some ⟨t.rows.findIdx p, h⟩ else none

/-- The places whose content passes `p`, in ascending number. -/
def places (t : Table n α) (p : α → Bool) : List (Fin n) :=
  ((List.finRange n).zip t.rows).filterMap fun x => if p x.2 then some x.1 else none

end Table

end Sys2Proof
end

