-- ==== Sys2Proof/Syntax.lean ====
section
/-! DEFINITION. The commands the 416 takes: one constructor for each row of the opcode table, with the
row's operands. `time` is the time at which the event is taken; frames and transfers come as bytes. -/

namespace Sys2Proof

/-- The two framed lines (R167): the site link and the rack link. -/
inductive Link where
  | site
  | rack
deriving DecidableEq, Repr

/-- The thirteen buffers between the part and the radio module (R9): D0 to D11 and the map buffer. -/
inductive BufferId where
  | downlink (k : Fin 12)
  | map
deriving DecidableEq, Repr

/-- A command: one row of spec/opcode_table.json. An order carries its tag and its parameter block. -/
inductive Instr where
  /-- A strobe on SFS, taken at `time` (R1 to R3). -/
  | superframeStrobe (time : Time)
  /-- The strobe window closes with no strobe taken in it (R2, R3). -/
  | windowExpiry
  /-- An uplink arrival: its header and content as they come in on ADAT_IN (R7, R182). -/
  | uplinkArrival (transfer : List Byte)
  /-- HRS takes the oldest waiting news that the handset bound to `slot` was heard (R90). -/
  | micHeard (slot : Fin 16)
  /-- The radio module fetches the slot with this code for superframe `m` (R10, R182). -/
  | fetch (slotCode : Byte) (m : Superframe)
  /-- The radio module fetches the map slot during superframe `m` (R11). -/
  | mapFetch (m : Superframe)
  /-- AP takes or discards the oldest waiting placement for `buffer` (R9). -/
  | placement (buffer : BufferId)
  /-- A good FEED frame with this payload (R30). -/
  | feedFrame (time : Time) (payload : List Byte)
  /-- The miss countdown of a roster entry has reached 0 (R89). -/
  | missCountdownExpiry (entry : Fin 512)
  /-- The repeat countdown of a tour's recall order has reached 0 (R119). -/
  | recallCountdownExpiry (tour : Fin 16)
  /-- MIX takes the oldest waiting request set (R45). -/
  | mixRequestSet
  /-- The 100 ms poll timer expires (R131). -/
  | pollTimerExpiry
  /-- The last byte of the request in flight has been sent (R126). -/
  | requestSent (time : Time)
  /-- A good BAY STATUS frame on the rack link (R127, R134). -/
  | bayStatus (time : Time) (payload : List Byte)
  /-- A good CHARGE ACK frame on the rack link (R127, R163). -/
  | chargeAck (time : Time) (payload : List Byte)
  /-- A good IMAGE ACK frame on the rack link (R127, R146). -/
  | imageAck (time : Time) (payload : List Byte)
  /-- A good RELEASE ACK frame on the rack link (R127, R147). -/
  | releaseAck (time : Time) (payload : List Byte)
  /-- A good rack frame of any kind; stray when no exchange in flight matches it (R126). -/
  | strayReply (time : Time) (kind : Byte) (payload : List Byte)
  /-- The 20 ms reply timer expires (R126, R128). -/
  | replyTimeout
  /-- The IMAGING timer of a transaction expires (R146). -/
  | imagingTimerExpiry (tx : Fin 4)
  /-- The TAKE-WAIT timer of a transaction expires (R148). -/
  | takeWaitTimerExpiry (tx : Fin 4)
  /-- The reaction timer of a rack's take request expires (R152). -/
  | reactionTimerExpiry (rack : Fin 8)
  /-- Bytes received on a link, of which the framing rules discard a frame (R168). -/
  | discardedFrame (time : Time) (link : Link) (line : List Byte)
  /-- The 3000 ms silence timer expires (R177). -/
  | silenceTimerExpiry
  /-- The last byte of the frame in transmission has been sent (R169). -/
  | frameSent (time : Time)
  /-- SET SOURCE (R18). -/
  | setSource (time : Time) (tag : Byte) (params : List Byte)
  /-- SET PROGRAM (R39). -/
  | setProgram (time : Time) (tag : Byte) (params : List Byte)
  /-- SET MIX (R41). -/
  | setMix (time : Time) (tag : Byte) (params : List Byte)
  /-- TAP (R55). -/
  | tap (time : Time) (tag : Byte) (params : List Byte)
  /-- OPEN (R109). -/
  | openProgram (time : Time) (tag : Byte) (params : List Byte)
  /-- CLOSE (R110). -/
  | closeProgram (time : Time) (tag : Byte) (params : List Byte)
  /-- RECALL (R118). -/
  | recall (time : Time) (tag : Byte) (params : List Byte)
  /-- SET FILTER (R96). -/
  | setFilter (time : Time) (tag : Byte) (params : List Byte)
  /-- VALIDATE FILTER (R96). -/
  | validateFilter (time : Time) (tag : Byte) (params : List Byte)
  /-- ENROL (R102). -/
  | enrol (time : Time) (tag : Byte) (params : List Byte)
  /-- ASSIGN (R103). -/
  | assign (time : Time) (tag : Byte) (params : List Byte)
  /-- BIND (R104). -/
  | bind (time : Time) (tag : Byte) (params : List Byte)
  /-- FORGET (R105). -/
  | forget (time : Time) (tag : Byte) (params : List Byte)
  /-- SET RACK (R123). -/
  | setRack (time : Time) (tag : Byte) (params : List Byte)
  /-- ISSUE (R143). -/
  | issue (time : Time) (tag : Byte) (params : List Byte)
  /-- CANCEL (R150). -/
  | cancel (time : Time) (tag : Byte) (params : List Byte)
  /-- READ (R171). -/
  | read (time : Time) (tag : Byte) (params : List Byte)
  /-- SET TIMING (R172). -/
  | setTiming (time : Time) (tag : Byte) (params : List Byte)
  /-- MASK (R175). -/
  | mask (time : Time) (tag : Byte) (params : List Byte)
  /-- STATUS (R176). -/
  | status (time : Time) (tag : Byte) (params : List Byte)
  /-- DAY (R178). -/
  | day (time : Time) (tag : Byte) (params : List Byte)
  /-- NIGHT (R178). -/
  | night (time : Time) (tag : Byte) (params : List Byte)
  /-- RESET (R179). -/
  | reset (time : Time) (tag : Byte) (params : List Byte)
  /-- RESET_N goes low (R180). -/
  | resetNAssert
  /-- RESET_N rises (R180). -/
  | resetNRelease (time : Time)
  /-- A good ORDER frame with any order code; MALFORMED when the code is none of the defined ones (R170). -/
  | unknownOrderCode (time : Time) (tag code : Byte) (params : List Byte)
deriving DecidableEq, Repr

end Sys2Proof
end

