-- ==== Sys2Proof/Config.lean ====
section
/-! DEFINITION. What an implementation of the model fixes. The spec leaves no value of the part to the
implementation and no result undefined, so there is no free value here; what is fixed is the unit of
the model's time base (DESIGN CHOICE, log 1). -/

namespace Sys2Proof

/-- How many units of `Time` make one millisecond. -/
abbrev Config.millisecond : Nat := 1000

end Sys2Proof
end

