-- ==== Sys2Proof/Machine/State.lean ====
section
/-! DEFINITION. The state of the Mantulo 416: one structure per block of the part (spec 00, "Block
overview"), the frames and records it holds, the reasons a step can stop, and the state after reset. -/

namespace Sys2Proof.Machine

/-! ## Air port (spec 01) -/

/-- How AP follows SFS. -/
inductive SyncState where
  | stopped | syncing | synced | flywheel
deriving DecidableEq, Repr

/-- A channel plan. -/
inductive Plan where
  | a | b
deriving DecidableEq, Repr

/-- The mark of a downlink block (R182). -/
inductive BlockMark where
  | program | fillFromMixer | fillForLateFetch
deriving DecidableEq, Repr

/-- A downlink block with its superframe tag and mark (R182). -/
structure DownlinkBlock where
  tag : Superframe
  mark : BlockMark
  samples : Block
deriving DecidableEq, Repr

/-- A retune order: the receiver and the program it is to tune to (R77). -/
structure RetuneOrder where
  id : HandsetId
  program : Fin 32
deriving DecidableEq, Repr

/-- A MAP BLOCK (R72). `plan` is none until AP takes the map and writes it (R9, log 23). -/
structure MapBlock where
  target : Superframe
  plan : Option Plan
  void : Bool
  allCallSlot : Option (Fin 12)
  slots : Table 12 (Option (Fin 32))
  uplinks : Table 16 (Option HandsetId)
  retunes : List RetuneOrder
  recalls : List (Fin 16)
deriving DecidableEq, Repr

/-- A transfer AP puts on ADAT_OUT. -/
inductive AirTransfer where
  /-- A CONTROL WORD (R6). -/
  | controlWord (superframe : Superframe) (plan : Plan) (transmit : Bool)
  /-- The answer to a fetch of a slot (R10). -/
  | downlink (block : DownlinkBlock)
  /-- The answer to a fetch of the map slot (R11). -/
  | map (block : MapBlock)
deriving DecidableEq, Repr

/-- A downlink buffer: EMPTY (none) or one block, and its fetched mark (R9, R10). -/
structure DownlinkBuffer where
  held : Option DownlinkBlock
  fetched : Option Superframe
deriving DecidableEq, Repr

/-- The map buffer: EMPTY (none) or one map, and its fetched mark (R9, R11). -/
structure MapBuffer where
  held : Option MapBlock
  fetched : Option Superframe
deriving DecidableEq, Repr

/-- The air port's state (spec 01, "State held by the air port"). -/
structure AirPort where
  sync : SyncState
  lastStrobe : Option Time
  intervalCount : Nat
  reference : Option Time
  flywheel : Nat
  superframe : Superframe
  plan : Plan
  planRecord : Option (Superframe × Plan)
  airErrors : Nat
  guardCount : Nat
  quietRun : Nat
  micMarks : Table 16 (Option Superframe)
  reportMarks : Table 4 (Option Superframe)
  buffers : Table 12 DownlinkBuffer
  mapBuffer : MapBuffer
  syncFaults : Nat
  lateFills : Nat
  lateReports : Nat
  duplicateArrivals : Nat
  planToggles : Nat
  /-- The model's own record of what AP has put on ADAT_OUT, oldest first (log 7). -/
  adatOut : List AirTransfer
deriving DecidableEq, Repr

/-! ## Source stage (spec 02) -/

/-- An activity detector's state (R22). -/
inductive DetectorState where
  | silent | onset | active | hanging
deriving DecidableEq, Repr

/-- A talk key's state. -/
inductive KeyState where
  | up | down
deriving DecidableEq, Repr

/-- The outcome of a mic arrival (R27). -/
inductive ArrivalOutcome where
  | good | bad | absent | foreign
deriving DecidableEq, Repr

/-- A stream's state (R31). -/
inductive StreamState where
  | priming | running
deriving DecidableEq, Repr

/-- A processed block in a block store (R24). -/
structure StoredBlock where
  tag : Superframe
  samples : Block
deriving DecidableEq, Repr

/-- A raw block in a jitter queue (R30). -/
structure FeedBlock where
  seqNumber : SeqNumber
  samples : Block
deriving DecidableEq, Repr

/-- One record of the source table (spec 02). -/
structure Source where
  gain : Nat
  onThreshold : Nat
  offThreshold : Nat
  attack : Nat
  hang : Nat
  enabled : Bool
  idleDetection : Bool
  idlePattern : BitVec 16
  idleMask : BitVec 16
  detector : DetectorState
  attackCounter : Nat
  hangCounter : Nat
  lastLevel : Nat
  store : List StoredBlock
  lastArrival : Option (Superframe × ArrivalOutcome)
  lastRawKey : KeyState
  queue : List FeedBlock
  stream : StreamState
  referenceSeq : Option SeqNumber
  underrunRun : Nat
  highMarkRun : Nat
  sourceClips : Nat
  lateBlocks : Nat
  foreignBlocks : Nat
  missingBlocks : Nat
  underruns : Nat
  slips : Nat
  overflowDrops : Nat
  staleFeeds : Nat
deriving DecidableEq, Repr

/-! ## Program mixer (spec 03) -/

/-- A language label: four printable characters. -/
structure Label where
  c0 : Byte
  c1 : Byte
  c2 : Byte
  c3 : Byte
deriving DecidableEq, Repr

/-- One entry of a mix list (R41). -/
structure MixEntry where
  source : Fin 24
  gain : Nat
  duckClass : Nat
deriving DecidableEq, Repr

/-- What MIX and Tour Control keep in a record of the program table (spec 03). -/
structure Program where
  isOpen : Bool
  tour : Fin 16
  label : Label
  tier : Nat
  allCall : Bool
  holdOpen : Bool
  test : Bool
  duckGain : Nat
  testAmplitude : Nat
  testHalfPeriod : Nat
  mixList : List MixEntry
  limiterGain : Nat
  patternPhase : Nat
  level : Nat
  blocksMixed : Nat
  clippedBlocks : Nat
  unsentBlocks : Nat
deriving DecidableEq, Repr

/-- The working modes of the tap; LEVELS-EVERY has a period (R55). -/
inductive TapMode where
  | levelsOnce
  | levelsEvery (period : Nat)
  | audio
deriving DecidableEq, Repr

/-- The tap record when a tap is on (R55). -/
structure TapRecord where
  program : Fin 32
  mode : TapMode
deriving DecidableEq, Repr

/-! ## Airtime scheduler (spec 04) -/

/-- The fields ATS keeps for each program (spec 04); the waiting flag is read from the queue. -/
structure ProgramSchedule where
  holderSlot : Option (Fin 12)
  grantSuperframe : Option Superframe
  heldCount : Nat
  releaseCountdown : Option Nat
  waitAge : Nat
  longWaitMark : Bool
  waitSuperframes : Nat
deriving DecidableEq, Repr

/-- The Airtime Scheduler's state (spec 04). -/
structure Scheduler where
  holders : Table 12 (Option (Fin 32))
  waitQueue : List (Fin 32)
  retuneQueue : List RetuneOrder
  builtMap : Option MapBlock
  releaseDelay : Nat
  longWaitLimit : Nat
  preemptions : Nat
  retuneDrops : Nat
  perProgram : Table 32 ProgramSchedule
deriving DecidableEq, Repr

/-! ## Handset roster (spec 05) -/

/-- A handset's kind. -/
inductive HandsetKind where
  | receiver | mic
deriving DecidableEq, Repr

/-- What a handset is out for: a receiver listens to a program of a tour, a microphone speaks for a
tour in an uplink slot (spec 05, "The roster"). -/
inductive Assignment where
  | listener (program : Fin 32) (tour : Fin 16)
  | speaker (tour : Fin 16) (slot : Fin 16)
deriving DecidableEq, Repr

/-- The state of an entry that is not EMPTY, with the fields that state has (R87). An ISSUED entry
whose countdown is 0 is waiting for its expiry to be taken (log 5). -/
inductive EntryState where
  | docked (rack : Fin 8) (bay : Fin 24)
  | issued (work : Assignment) (countdown : Nat)
  | missing (work : Assignment)
  | recalled
  | loose
deriving DecidableEq, Repr

/-- A roster entry that is not EMPTY (spec 05). -/
structure RosterEntry where
  id : HandsetId
  kind : HandsetKind
  state : EntryState
  battery : Nat
  lowBattery : Bool
  lastHeard : Option Superframe
  lastQuality : Option Nat
deriving DecidableEq, Repr

/-- The state of an uplink slot (R99). -/
inductive UplinkState where
  | free
  | reserved (transaction : Fin 4)
  | bound (entry : Fin 512)
deriving DecidableEq, Repr

/-- The kind an admission filter entry asks for (R95). -/
inductive FilterKind where
  | any | receiver | mic
deriving DecidableEq, Repr

/-- An admission filter entry (R95). -/
structure FilterEntry where
  used : Bool
  pattern : BitVec 24
  mask : BitVec 24
  kind : FilterKind
deriving DecidableEq, Repr

/-- A place of the stray list (R97). -/
structure Stray where
  id : HandsetId
  age : Nat
deriving DecidableEq, Repr

/-- The Handset Roster's state (spec 05). EMPTY entries are none. -/
structure Roster where
  entries : Table 512 (Option RosterEntry)
  missTimeout : Nat
  autoEnrol : Bool
  slots : Table 16 UplinkState
  listeners : Table 32 Nat
  filter : Table 8 FilterEntry
  filterValid : Bool
  strays : List Stray
  reportErrors : Nat
  kindMismatches : Nat
  dockedReports : Nat
  unadmittedReports : Nat
  strayReports : Nat
deriving DecidableEq, Repr

/-! ## Tour control (spec 06) -/

/-- A key recognizer's state (R114). -/
inductive RecognizerState where
  | idle | press1 | gap | press2 | holdoff
deriving DecidableEq, Repr

/-- A key recognizer (spec 06). -/
structure Recognizer where
  state : RecognizerState
  key : KeyState
  disagreement : Nat
  press : Nat
  gapCount : Nat
  window : Nat
deriving DecidableEq, Repr

/-- What raised a recall (R117). -/
inductive RecallCause where
  | key | order
deriving DecidableEq, Repr

/-- A recall order. A countdown of 0 is waiting for its expiry to be taken (log 5). -/
structure RecallOrder where
  tour : Fin 16
  cause : RecallCause
  countdown : Nat
deriving DecidableEq, Repr

/-- Tour Control's state (spec 06). -/
structure TourControl where
  recognizers : Table 16 Recognizer
  recalls : List RecallOrder
deriving DecidableEq, Repr

/-! ## Rack link controller (spec 07) -/

/-- Whether a rack answers. -/
inductive RackLinkState where
  | unknown | online | offline
deriving DecidableEq, Repr

/-- What a bay holds. -/
inductive Occupancy where
  | unknown
  | empty
  | occupied (id : HandsetId) (battery : Nat)
deriving DecidableEq, Repr

/-- A bay's charger state. -/
inductive ChargerState where
  | idle | charging | full | fault
deriving DecidableEq, Repr

/-- A bay's latch. -/
inductive LatchState where
  | locked | released
deriving DecidableEq, Repr

/-- A bay's image state; it has a tag when it is not NONE. -/
inductive ImageState where
  | none
  | writing (tag : Byte)
  | done (tag : Byte)
  | failed (tag : Byte)
deriving DecidableEq, Repr

/-- A bay record (spec 07, "Bay records"). -/
structure Bay where
  occupancy : Occupancy
  charger : ChargerState
  latch : LatchState
  image : ImageState
  foreign : Bool
  reservation : Option (Fin 4)
deriving DecidableEq, Repr

/-- A rack record (spec 07, "The rack table"). -/
structure Rack where
  present : Bool
  budget : Nat
  defaultProgram : Option (Fin 32)
  defaultKind : HandsetKind
  issueThreshold : Nat
  warmThreshold : Int
  hotThreshold : Int
  link : RackLinkState
  missCount : Nat
  lastTemperature : Option Int
  lastTakeCount : Option Byte
  replies : Nat
  timeouts : Nat
deriving DecidableEq, Repr

/-- A charge level (spec 09), OFF lowest. -/
inductive ChargeLevel where
  | off | trickle | normal | fast
deriving DecidableEq, Repr

/-- The handset image (R145). -/
structure HandsetImage where
  id : HandsetId
  kind : HandsetKind
  tag : Byte
  tour : Fin 16
  program : Option (Fin 32)
  slot : Option (Fin 16)
  volumeCap : Nat
  languages : List (Fin 32 × Label)
deriving DecidableEq, Repr

/-- A request to a rack. A RELEASE keeps the image tag of the transaction it was asked for (log 21). -/
inductive RackRequest where
  | poll
  | charge (levels : Table 24 ChargeLevel)
  | image (bay : Fin 24) (content : HandsetImage)
  | release (bay : Fin 24) (owner : Byte)
deriving DecidableEq, Repr

/-- An entry of the exchange queue. -/
structure Exchange where
  rack : Fin 8
  request : RackRequest
deriving DecidableEq, Repr

/-- The exchange in flight; its reply timer starts when the request has been sent (R126). `leftService` says
that its rack has been taken out of service since it started (R124, log 43). -/
structure InFlight where
  exchange : Exchange
  replyTimer : Option Time
  leftService : Bool
deriving DecidableEq, Repr

/-- A receiver of a framed link (R168): in HUNT, or inside a frame with the unescaped bytes taken so
far and whether the last byte was 0xA6. -/
inductive ReceiveState where
  | hunt
  | inFrame (body : List Byte) (escaped : Bool)
deriving DecidableEq, Repr

/-- The Rack Link Controller's state (spec 07). -/
structure RackController where
  racks : Table 8 Rack
  bays : Table 8 (Table 24 Bay)
  queue : List Exchange
  inFlight : Option InFlight
  pendingCharge : Table 8 (Option (Table 24 ChargeLevel))
  /-- When the poll timer next expires; none while RESET_N is low. -/
  pollTimer : Option Time
  receive : ReceiveState
  rackFrameErrors : Nat
  strayReplies : Nat
  skippedPolls : Nat
  queueRefusals : Nat
  badBayReports : Nat
deriving DecidableEq, Repr

/-! ## Issue engine (spec 08) -/

/-- A transaction's state. -/
inductive TransactionState where
  | select | imaging | releasing | takeWait
deriving DecidableEq, Repr

/-- Where a transaction came from: an ISSUE order with its tag, or a rack's default. -/
inductive Origin where
  | order (tag : Byte)
  | default
deriving DecidableEq, Repr

/-- A request to make again at the rack's next status reply. -/
inductive RetryRequest where
  | image | release
deriving DecidableEq, Repr

/-- An issue transaction (spec 08). `releaseAsked` holds R147's "RELEASE asked" (log 21). -/
structure Transaction where
  state : TransactionState
  origin : Origin
  rack : Fin 8
  bay : Fin 24
  id : HandsetId
  work : Assignment
  imageTag : Byte
  image : HandsetImage
  retry : Option RetryRequest
  timer : Option Time
  releaseAsked : Bool
deriving DecidableEq, Repr

/-- The six outcomes of a transaction (R139). -/
inductive IssueOutcome where
  | taken | notTaken | imageFailed | handsetLost | cancelled | rackLost
deriving DecidableEq, Repr

/-- The Issue Engine's state (spec 08). -/
structure IssueEngine where
  transactions : Table 4 (Option Transaction)
  sequenceNumber : Byte
  /-- Per rack: the take request's reaction timer while one is pending. -/
  takeRequests : Table 8 (Option Time)
  latches : Table 8 Bool
  marks : Table 8 Bool
deriving DecidableEq, Repr

/-! ## Charge planner (spec 09) -/

/-- A rack's temperature state (R158). -/
inductive TemperatureState where
  | normal | warm | hot
deriving DecidableEq, Repr

/-- What CHP keeps for one rack (spec 09). -/
structure ChargePlanner where
  temperature : TemperatureState
  plan : Table 24 ChargeLevel
  acknowledged : Option (Table 24 ChargeLevel)
  lastAsked : Option (Table 24 ChargeLevel)
  chargesAsked : Nat
  shortPlans : Nat
  badAcks : Nat
deriving DecidableEq, Repr

/-! ## Site link and management (spec 10) -/

/-- A roster entry's state as notices and READ name it. -/
inductive EntryStateName where
  | empty | docked | issued | missing | recalled | loose
deriving DecidableEq, Repr

/-- Why a take request was dropped (R151, R152, R155). -/
inductive TakeDropReason where
  | night | noDefault | busy | noHandset | noSlot
deriving DecidableEq, Repr

/-- Whether a recall was added or restarted (R117). -/
inductive RecallTaken where
  | added | restarted
deriving DecidableEq, Repr

/-- What a TAP LEVELS notice tells of one mix list entry (R57). -/
structure TapSourceLevel where
  source : Fin 24
  level : Nat
  detector : DetectorState
deriving DecidableEq, Repr

/-- A notice (spec 10, "Notices"): its kind and the data its rule names. -/
inductive Notice where
  /-- R149; the entry's new state and assignment when TAKEN. -/
  | issueResult (outcome : IssueOutcome) (origin : Origin) (tx : Fin 4) (imageTag : Byte)
      (id : HandsetId) (kind : HandsetKind) (rack : Fin 8) (bay : Fin 24)
      (newState : Option EntryStateName) (work : Option Assignment)
  /-- R141. -/
  | returned (id : HandsetId) (kind : HandsetKind) (entry : Fin 512) (rack : Fin 8) (bay : Fin 24)
      (battery : Nat) (left : EntryStateName) (work : Option Assignment)
  /-- R142. -/
  | unissuedRemoval (id : HandsetId) (kind : HandsetKind) (entry : Fin 512) (rack : Fin 8)
      (bay : Fin 24) (battery : Nat)
  /-- R140. -/
  | enrolled (id : HandsetId) (kind : HandsetKind) (entry : Fin 512) (rack : Fin 8) (bay : Fin 24)
      (battery : Nat)
  /-- R140. -/
  | rosterFull (id : HandsetId) (kind : HandsetKind) (rack : Fin 8) (bay : Fin 24)
  /-- R97. -/
  | stray (id : HandsetId) (kind : HandsetKind) (program : Option (Fin 32)) (battery quality : Nat)
      (filterEntry : Fin 8)
  /-- R151. -/
  | takeRequest (rack : Fin 8) (program : Option (Fin 32)) (kind : HandsetKind)
  /-- R152. -/
  | takeDefaulted (rack : Fin 8) (tx : Fin 4) (work : Assignment) (bay : Fin 24) (id : HandsetId)
  /-- R151, R152, R155; the number of presses when they were dropped in NIGHT. -/
  | takeDropped (rack : Fin 8) (presses : Option Nat) (reason : TakeDropReason)
  /-- R117; the slot and the microphone for cause KEY. -/
  | recall (tour : Fin 16) (cause : RecallCause) (taken : RecallTaken)
      (source : Option (Fin 16 × HandsetId))
  /-- R117. -/
  | recallDropped (tour : Fin 16) (slot : Fin 16) (id : HandsetId)
  /-- R69. -/
  | longWait (program : Fin 32) (tier waitAge : Nat)
  /-- R91. -/
  | lowBattery (id : HandsetId) (kind : HandsetKind) (battery : Nat) (state : EntryStateName)
      (work : Option Assignment)
  /-- R135. -/
  | chargerFault (rack : Fin 8) (bay : Fin 24) (id : Option HandsetId) (battery : Option Nat)
      (temperature : Int)
  /-- R89; the last heard superframe number is the notice's own (log 15). -/
  | missing (id : HandsetId) (kind : HandsetKind) (work : Assignment) (battery : Nat)
  /-- R90, R93; the quality when a report found the handset. -/
  | found (id : HandsetId) (kind : HandsetKind) (work : Assignment) (battery : Nat)
      (quality : Option Nat)
  /-- R13. -/
  | interference (plan : Plan)
  /-- R57. -/
  | tapLevels (program : Fin 32) (level limiterGain listeners : Nat) (slot : Option (Fin 12))
      (sources : List TapSourceLevel)
  /-- The five condition notices (R174). -/
  | syncLost
  | airDegraded
  | rackOffline (rack : Fin 8)
  | rackHot (rack : Fin 8)
  | noticesLost
deriving DecidableEq, Repr

/-- A notice with the superframe number of its header (R173). -/
structure NoticeFrame where
  superframe : Superframe
  notice : Notice
deriving DecidableEq, Repr

/-- An answer code (spec 10, "Orders and answers"). -/
inductive AnswerCode where
  | done | doneClamped | accepted | busy | noEntry | refused | noHandset | noSlot | malformed
deriving DecidableEq, Repr

/-- An ANSWER frame: its order's tag, the code and the data bytes. -/
structure AnswerFrame where
  tag : Byte
  code : AnswerCode
  data : List Byte
deriving DecidableEq, Repr

/-- A TAPOUT frame (R58). -/
structure TapoutFrame where
  program : Fin 32
  target : Superframe
  level : Nat
  samples : Block
deriving DecidableEq, Repr

/-- The frame in transmission on STX (R169). -/
inductive OutFrame where
  | answer (a : AnswerFrame)
  | notice (n : NoticeFrame)
  | tapout (t : TapoutFrame)
deriving DecidableEq, Repr

/-- The scope of a RESET order (R179). -/
inductive ResetScope where
  | full | air
deriving DecidableEq, Repr

/-- LINKED or STANDALONE (R177). -/
inductive SiteLinkState where
  | linked | standalone
deriving DecidableEq, Repr

/-- The hub mode (R178). -/
inductive HubMode where
  | day | night
deriving DecidableEq, Repr

/-- The Site Link Interface and Management block's state (spec 10). A mask entry is true when
MASKED. -/
structure SiteLink where
  receive : ReceiveState
  answers : List AnswerFrame
  notices : List NoticeFrame
  tapouts : List TapoutFrame
  transmitting : Option OutFrame
  link : SiteLinkState
  silenceTimer : Option Time
  mode : HubMode
  resetPending : Option ResetScope
  mask : Table 23 Bool
  syncLost : Bool
  airDegraded : Bool
  noticesLost : Bool
  rackOffline : Table 8 Bool
  rackHot : Table 8 Bool
  noticesLostDue : Bool
  siteFrameErrors : Nat
  noticesDropped : Nat
  tapoutDrops : Nat
  orderOverruns : Nat
deriving DecidableEq, Repr

/-! ## Handovers between blocks (log 3) -/

/-- A block or map on its way to one of AP's buffers (R9). -/
inductive Placement where
  | downlink (slot : Fin 12) (block : DownlinkBlock)
  | map (block : MapBlock)
deriving DecidableEq, Repr

/-- A mix request set on its way to MIX (R45, R76). -/
structure MixRequestSet where
  target : Superframe
  programs : List (Fin 32 × Fin 12)
deriving DecidableEq, Repr

/-- The news, on its way to HRS, that the handset bound to a slot was heard (R28, R90). -/
structure HeardNews where
  slot : Fin 16
  superframe : Superframe
  battery : Nat
deriving DecidableEq, Repr

/-- What one block has handed another and the other has not yet taken, oldest first. -/
structure Handovers where
  placements : List Placement
  mixSets : List MixRequestSet
  heard : List HeardNews
deriving DecidableEq, Repr

/-! ## The whole part -/

/-- The state of the part. -/
structure State where
  ap : AirPort
  sources : Table 24 Source
  programs : Table 32 Program
  tap : Option TapRecord
  ats : Scheduler
  hrs : Roster
  trc : TourControl
  rlc : RackController
  ise : IssueEngine
  chp : Table 8 ChargePlanner
  sli : SiteLink
  handovers : Handovers
  /-- RESET_N is held low (R180). -/
  resetHeld : Bool
  /-- The 416's own time base, as far as events have been taken (log 1). -/
  now : Time
  /-- Which of two orders coming events take, where the spec leaves both open (log 2). -/
  choices : List Bool
  /-- The commands waiting, first in first out. -/
  pending : List Instr
deriving DecidableEq, Repr

/-- Why a command stops the machine with a fault. There is no constructor: the spec names no event that
stops the part, and every command answers a next state (safe: nothing is left out by it). -/
inductive Fault where
deriving DecidableEq, Repr

/-- Why a command has no meaning. -/
inductive Refusal where
  /-- `exec`'s arm gives the command no meaning yet; raised by Dispatch alone. Safe. -/
  | notModelled (mnemonic : String)
deriving DecidableEq, Repr

/-! ## Reset values -/

/-- AP after a FULL reset (R16). -/
def AirPort.reset : AirPort where
  sync := .stopped
  lastStrobe := none
  intervalCount := 0
  reference := none
  flywheel := 0
  superframe := 0
  plan := .a
  planRecord := none
  airErrors := 0
  guardCount := 500
  quietRun := 0
  micMarks := .fill 16 none
  reportMarks := .fill 4 none
  buffers := .fill 12 ⟨none, none⟩
  mapBuffer := ⟨none, none⟩
  syncFaults := 0
  lateFills := 0
  lateReports := 0
  duplicateArrivals := 0
  planToggles := 0
  adatOut := []

/-- A source record after a FULL reset (R36). -/
def Source.reset : Source where
  gain := 1024
  onThreshold := 800
  offThreshold := 500
  attack := 2
  hang := 30
  enabled := false
  idleDetection := false
  idlePattern := 0
  idleMask := 0xFFFF
  detector := .silent
  attackCounter := 0
  hangCounter := 0
  lastLevel := 0
  store := []
  lastArrival := none
  lastRawKey := .up
  queue := []
  stream := .priming
  referenceSeq := none
  underrunRun := 0
  highMarkRun := 0
  sourceClips := 0
  lateBlocks := 0
  foreignBlocks := 0
  missingBlocks := 0
  underruns := 0
  slips := 0
  overflowDrops := 0
  staleFeeds := 0

/-- A program record after a FULL reset (R61). -/
def Program.reset : Program where
  isOpen := false
  tour := 0
  label := ⟨0x20, 0x20, 0x20, 0x20⟩
  tier := 0
  allCall := false
  holdOpen := false
  test := false
  duckGain := 256
  testAmplitude := 8192
  testHalfPeriod := 8
  mixList := []
  limiterGain := 1024
  patternPhase := 0
  level := 0
  blocksMixed := 0
  clippedBlocks := 0
  unsentBlocks := 0

/-- A program's scheduling fields after a FULL reset (R83). -/
def ProgramSchedule.reset : ProgramSchedule where
  holderSlot := none
  grantSuperframe := none
  heldCount := 0
  releaseCountdown := none
  waitAge := 0
  longWaitMark := false
  waitSuperframes := 0

/-- ATS after a FULL reset (R83). -/
def Scheduler.reset : Scheduler where
  holders := .fill 12 none
  waitQueue := []
  retuneQueue := []
  builtMap := none
  releaseDelay := 25
  longWaitLimit := 200
  preemptions := 0
  retuneDrops := 0
  perProgram := .fill 32 .reset

/-- HRS after a FULL reset (R108). -/
def Roster.reset : Roster where
  entries := .fill 512 none
  missTimeout := 3000
  autoEnrol := true
  slots := .fill 16 .free
  listeners := .fill 32 0
  filter := .fill 8 ⟨false, 0, 0, .any⟩
  filterValid := false
  strays := []
  reportErrors := 0
  kindMismatches := 0
  dockedReports := 0
  unadmittedReports := 0
  strayReports := 0

/-- A key recognizer in its reset state (R116). -/
def Recognizer.reset : Recognizer where
  state := .idle
  key := .up
  disagreement := 0
  press := 0
  gapCount := 0
  window := 0

/-- TRC after a FULL reset (R122). -/
def TourControl.reset : TourControl where
  recognizers := .fill 16 .reset
  recalls := []

/-- A rack record after a FULL reset (R138). -/
def Rack.reset : Rack where
  present := true
  budget := 2000
  defaultProgram := none
  defaultKind := .receiver
  issueThreshold := 60
  warmThreshold := 40
  hotThreshold := 45
  link := .unknown
  missCount := 0
  lastTemperature := none
  lastTakeCount := none
  replies := 0
  timeouts := 0

/-- A bay with its unknown values and no reservation (R125, R138). -/
def Bay.reset : Bay where
  occupancy := .unknown
  charger := .idle
  latch := .locked
  image := .none
  foreign := false
  reservation := none

/-- RLC after a FULL reset; the poll timer first expires 100 ms after it (R138). Its receiver is in HUNT, and a
frame partly received is gone without a count (DESIGN CHOICE, log 41). -/
def RackController.reset : RackController where
  racks := .fill 8 .reset
  bays := .fill 8 (.fill 24 .reset)
  queue := []
  inFlight := none
  pendingCharge := .fill 8 none
  pollTimer := some (100 * Config.millisecond)
  receive := .hunt
  rackFrameErrors := 0
  strayReplies := 0
  skippedPolls := 0
  queueRefusals := 0
  badBayReports := 0

/-- ISE after a FULL reset (R156). -/
def IssueEngine.reset : IssueEngine where
  transactions := .fill 4 none
  sequenceNumber := 0
  takeRequests := .fill 8 none
  latches := .fill 8 false
  marks := .fill 8 false

/-- CHP's record of a rack after a FULL reset (R166). -/
def ChargePlanner.reset : ChargePlanner where
  temperature := .normal
  plan := .fill 24 .off
  acknowledged := none
  lastAsked := none
  chargesAsked := 0
  shortPlans := 0
  badAcks := 0

/-- SLI after a FULL reset (R180). -/
def SiteLink.reset : SiteLink where
  receive := .hunt
  answers := []
  notices := []
  tapouts := []
  transmitting := none
  link := .standalone
  silenceTimer := none
  mode := .night
  resetPending := none
  mask := .fill 23 false
  syncLost := false
  airDegraded := false
  noticesLost := false
  rackOffline := .fill 8 false
  rackHot := .fill 8 false
  noticesLostDue := false
  siteFrameErrors := 0
  noticesDropped := 0
  tapoutDrops := 0
  orderOverruns := 0

/-- Nothing on its way between blocks. -/
def Handovers.reset : Handovers where
  placements := []
  mixSets := []
  heard := []

/-- The part right after reset: every block in its FULL reset state and RESET_N high, at time 0 of the
model's clock (log 25). -/
def State.reset : State where
  ap := .reset
  sources := .fill 24 .reset
  programs := .fill 32 .reset
  tap := none
  ats := .reset
  hrs := .reset
  trc := .reset
  rlc := .reset
  ise := .reset
  chp := .fill 8 .reset
  sli := .reset
  handovers := .reset
  resetHeld := false
  now := 0
  choices := []
  pending := []

end Sys2Proof.Machine
end

