-- ==== Sys2Proof/Machine/Ops.lean ====
section
/-! DEFINITION. The shared operations over the state: changing one block's part of it, saturating
counters, the part's one rounding, the wrapping comparison, and the order of effects the spec leaves
open. -/

namespace Sys2Proof.Machine

/-! ## Changing one block's part of the state -/

/-- Change AP's state. -/
def State.onAp (s : State) (f : AirPort → AirPort) : State := { s with ap := f s.ap }

/-- Change one record of the source table. -/
def State.onSource (s : State) (k : Fin 24) (f : Source → Source) : State :=
  { s with sources := s.sources.modify k f }

/-- Change every record of the source table. -/
def State.onSources (s : State) (f : Source → Source) : State :=
  { s with sources := s.sources.map f }

/-- Change one record of the program table. -/
def State.onProgram (s : State) (p : Fin 32) (f : Program → Program) : State :=
  { s with programs := s.programs.modify p f }

/-- Change every record of the program table. -/
def State.onPrograms (s : State) (f : Program → Program) : State :=
  { s with programs := s.programs.map f }

/-- Set the tap record. -/
def State.setTap (s : State) (t : Option TapRecord) : State := { s with tap := t }

/-- Change ATS's state. -/
def State.onAts (s : State) (f : Scheduler → Scheduler) : State := { s with ats := f s.ats }

/-- Change HRS's state. -/
def State.onHrs (s : State) (f : Roster → Roster) : State := { s with hrs := f s.hrs }

/-- Change TRC's state. -/
def State.onTrc (s : State) (f : TourControl → TourControl) : State := { s with trc := f s.trc }

/-- Change RLC's state. -/
def State.onRlc (s : State) (f : RackController → RackController) : State :=
  { s with rlc := f s.rlc }

/-- Change ISE's state. -/
def State.onIse (s : State) (f : IssueEngine → IssueEngine) : State := { s with ise := f s.ise }

/-- Change CHP's record of one rack. -/
def State.onChp (s : State) (r : Fin 8) (f : ChargePlanner → ChargePlanner) : State :=
  { s with chp := s.chp.modify r f }

/-- Change SLI's state. -/
def State.onSli (s : State) (f : SiteLink → SiteLink) : State := { s with sli := f s.sli }

/-- Change what is on its way between blocks. -/
def State.onHandovers (s : State) (f : Handovers → Handovers) : State :=
  { s with handovers := f s.handovers }

/-- Change one rack record. -/
def State.onRack (s : State) (r : Fin 8) (f : Rack → Rack) : State :=
  s.onRlc fun c => { c with racks := c.racks.modify r f }

/-- Change one bay record. -/
def State.onBay (s : State) (r : Fin 8) (b : Fin 24) (f : Bay → Bay) : State :=
  s.onRlc fun c => { c with bays := c.bays.modify r fun t => t.modify b f }

/-- One rack record. -/
def State.rack (s : State) (r : Fin 8) : Rack := s.rlc.racks.get r

/-- One bay record. -/
def State.bay (s : State) (r : Fin 8) (b : Fin 24) : Bay := (s.rlc.bays.get r).get b

/-- One program record. -/
def State.program (s : State) (p : Fin 32) : Program := s.programs.get p

/-- One source record. -/
def State.source (s : State) (k : Fin 24) : Source := s.sources.get k

/-- One roster entry; none when it is EMPTY. -/
def State.entry (s : State) (e : Fin 512) : Option RosterEntry := s.hrs.entries.get e

/-- Set one roster entry. -/
def State.setEntry (s : State) (e : Fin 512) (v : Option RosterEntry) : State :=
  s.onHrs fun h => { h with entries := h.entries.set e v }

/-- The time base has reached `t` (log 1). It never runs back. -/
def State.reachTime (s : State) (t : Time) : State := { s with now := max s.now t }

/-! ## Arithmetic of the whole part (spec 00, "Conventions") -/

/-- A counter that stops at 65535 (R7, R20, R54, R92, R137 and others). -/
def bump (c : Nat) : Nat := if c < 65535 then c + 1 else c

/-- A counter raised `k` times, stopping at 65535. -/
def bumpBy (k c : Nat) : Nat := if c + k < 65535 then c + k else max c 65535

/-- Scaling `x` by gain `g`: round to nearest, ties upward (spec 00, "Samples, gains and levels"). -/
def scale (x : Int) (g : Nat) : Int := (x * g + 512) / 1024

/-- Clamp to the sample range, −32768 to 32767. -/
def clampSample (x : Int) : Int := max (-32768) (min 32767 x)

/-- The level of a block: its mean absolute value (spec 00). -/
def blockLevel (b : Block) : Nat := (b.map Int.natAbs).sum / 160

/-- A block of 160 zero samples. -/
def silence : Block := List.replicate 160 0

/-- `a` is ahead of `b`: (a − b) modulo 65536 lies between 1 and 32767 (spec 00, "Sequence
comparison"). -/
def ahead (a b : BitVec 16) : Bool := 1 ≤ (a - b).toNat && (a - b).toNat ≤ 32767

/-- A value brought into its range `lo` to `hi`, and whether it had to be (spec 10, "Orders and
answers"). -/
def clampNat (lo hi x : Nat) : Nat × Bool := (max lo (min hi x), x < lo || hi < x)

/-- A signed value brought into its range. -/
def clampInt (lo hi x : Int) : Int × Bool := (max lo (min hi x), x < lo || hi < x)

/-! ## Orders the spec leaves open -/

/-- Take the next choice between two orders of effects that the spec leaves open; false when none is
given (DESIGN CHOICE, log 2). -/
def State.choose (s : State) : Bool × State :=
  match s.choices with
  | [] => (false, s)
  | c :: rest => (c, { s with choices := rest })

/-- Two parts of one event with no order between them: `f` before `g` unless the choice says
otherwise (log 2). -/
def State.inEitherOrder (s : State) (f g : State → State) : State :=
  if s.choose.1 then f (g s.choose.2) else g (f s.choose.2)

/-! ## RESET_N -/

/-- A command's effect while RESET_N is high; while it is held low the part takes nothing (R180). -/
def State.unlessHeld (s : State) (f : State → State) : State := if s.resetHeld then s else f s

end Sys2Proof.Machine
end

