-- ==== Sys2Proof/Machine/Flags.lean ====
section
/-! DEFINITION. Notices and condition flags (spec 10, R173 and R174): handing a notice to SLI, the
notice mask, raising and clearing each flag. -/

namespace Sys2Proof.Machine

/-- The mask entry of a notice: its notice kind code less 1 (R181, "Notice kind"). -/
def Notice.maskEntry : Notice → Fin 23
  | .issueResult .. => 0
  | .returned .. => 1
  | .unissuedRemoval .. => 2
  | .enrolled .. => 3
  | .rosterFull .. => 4
  | .stray .. => 5
  | .takeRequest .. => 6
  | .takeDefaulted .. => 7
  | .takeDropped .. => 8
  | .recall .. => 9
  | .recallDropped .. => 10
  | .longWait .. => 11
  | .lowBattery .. => 12
  | .chargerFault .. => 13
  | .missing .. => 14
  | .found .. => 15
  | .interference .. => 16
  | .tapLevels .. => 17
  | .syncLost => 18
  | .airDegraded => 19
  | .rackOffline _ => 20
  | .rackHot _ => 21
  | .noticesLost => 22

/-- The kind is MASKED. -/
def State.masked (s : State) (n : Notice) : Bool := s.sli.mask.get n.maskEntry

/-- Raise NOTICES LOST; its notice is due when a place next frees (R174). -/
def State.raiseNoticesLost (s : State) : State :=
  if s.sli.noticesLost then s
  else s.onSli fun l =>
    { l with noticesLost := true, noticesLostDue := l.noticesLostDue || !s.masked .noticesLost }

/-- A notice past the mask joins the tail of the notice queue, or is dropped and counted when sixteen
wait (R173). -/
def State.queueNotice (s : State) (superframe : Superframe) (n : Notice) : State :=
  if s.sli.notices.length < 16 then
    s.onSli fun l => { l with notices := l.notices ++ [⟨superframe, n⟩] }
  else
    (s.onSli fun l => { l with noticesDropped := bump l.noticesDropped }).raiseNoticesLost

/-- A block hands SLI a notice whose rule names a superframe number (R173). -/
def State.sendNoticeAt (s : State) (superframe : Superframe) (n : Notice) : State :=
  if s.masked n then s else s.queueNotice superframe n

/-- A block hands SLI a notice; SLI adds the superframe number AP holds (R173). -/
def State.sendNotice (s : State) (n : Notice) : State := s.sendNoticeAt s.ap.superframe n

/-- The TAKE REQUEST notice is queued whatever its mask entry (R151, R173); a full queue drops and counts it as
an UNMASKED one, MASKED or not (DESIGN CHOICE, log 42). -/
def State.sendTakeRequest (s : State) (rack : Fin 8) (program : Option (Fin 32))
    (kind : HandsetKind) : State :=
  s.queueNotice s.ap.superframe (.takeRequest rack program kind)

/-! ## Condition flags (R174) -/

/-- Raise SYNC LOST. -/
def State.raiseSyncLost (s : State) : State :=
  if s.sli.syncLost then s
  else (s.onSli fun l => { l with syncLost := true }).sendNotice .syncLost

/-- Clear SYNC LOST. -/
def State.clearSyncLost (s : State) : State := s.onSli fun l => { l with syncLost := false }

/-- Raise AIR DEGRADED. -/
def State.raiseAirDegraded (s : State) : State :=
  if s.sli.airDegraded then s
  else (s.onSli fun l => { l with airDegraded := true }).sendNotice .airDegraded

/-- Clear AIR DEGRADED. -/
def State.clearAirDegraded (s : State) : State := s.onSli fun l => { l with airDegraded := false }

/-- Raise RACK OFFLINE for a rack. -/
def State.raiseRackOffline (s : State) (r : Fin 8) : State :=
  if s.sli.rackOffline.get r then s
  else (s.onSli fun l => { l with rackOffline := l.rackOffline.set r true }).sendNotice
    (.rackOffline r)

/-- Clear RACK OFFLINE for a rack. -/
def State.clearRackOffline (s : State) (r : Fin 8) : State :=
  s.onSli fun l => { l with rackOffline := l.rackOffline.set r false }

/-- Raise RACK HOT for a rack. -/
def State.raiseRackHot (s : State) (r : Fin 8) : State :=
  if s.sli.rackHot.get r then s
  else (s.onSli fun l => { l with rackHot := l.rackHot.set r true }).sendNotice (.rackHot r)

/-- Clear RACK HOT for a rack. -/
def State.clearRackHot (s : State) (r : Fin 8) : State :=
  s.onSli fun l => { l with rackHot := l.rackHot.set r false }

/-! ## The mask (R175) -/

/-- The flags of condition kind `k` (a mask entry, 18 to 21) that are raised, as their notices, racks
ascending. -/
def State.raisedNotices (s : State) (k : Fin 23) : List Notice :=
  if k = 18 then (if s.sli.syncLost then [.syncLost] else [])
  else if k = 19 then (if s.sli.airDegraded then [.airDegraded] else [])
  else if k = 20 then (s.sli.rackOffline.places id).map .rackOffline
  else if k = 21 then (s.sli.rackHot.places id).map .rackHot
  else []

/-- The condition kinds that go from MASKED to UNMASKED, in the order of the notice table. -/
def unmaskedConditions (old new : Table 23 Bool) : List (Fin 23) :=
  [18, 19, 20, 21].filter fun k => old.get k && !new.get k

/-- Replace the whole mask, with the notices and the due mark that this brings (R174, R175). -/
def State.replaceMask (s : State) (new : Table 23 Bool) : State :=
  let old := s.sli.mask
  let s := s.onSli fun l =>
    { l with
      mask := new
      noticesLostDue :=
        if new.get 22 then false
        else l.noticesLostDue || (old.get 22 && l.noticesLost) }
  ((unmaskedConditions old new).flatMap s.raisedNotices).foldl State.sendNotice s

/-- STATUS clears the NOTICES LOST flag and its due mark (R176). -/
def State.clearNoticesLost (s : State) : State :=
  s.onSli fun l => { l with noticesLost := false, noticesLostDue := false }

end Sys2Proof.Machine
end

