-- ==== Sys2Proof/Machine/Operands.lean ====
section
/-! DEFINITION. Reading the operands: the codings of spec 11 (R181, R182) for order parameters, uplink
arrivals and rack replies. -/

namespace Sys2Proof.Machine

/-! ## Field types (R181) -/

/-- Two bytes, high byte first. -/
def word16 (hi lo : Byte) : BitVec 16 := hi ++ lo

/-- Two bytes as an unsigned quantity. -/
def quantity (hi lo : Byte) : Nat := (word16 hi lo).toNat

/-- Three bytes, high byte first. -/
def word24 (b2 b1 b0 : Byte) : BitVec 24 := b2 ++ b1 ++ b0

/-- Samples, two bytes each, two's complement. -/
def samplesOf : List Byte → Block
  | hi :: lo :: rest => (word16 hi lo).toInt :: samplesOf rest
  | _ => []

/-- A number that names one of `n` places; none when it is out of range. -/
def placeOf (n : Nat) (b : Byte) : Option (Fin n) :=
  if h : b.toNat < n then some ⟨b.toNat, h⟩ else none

/-- A flag: 0 clear, 1 set, anything else none. -/
def flagOf (b : Byte) : Option Bool :=
  if b = 0 then some false else if b = 1 then some true else none

/-- A handset kind. -/
def kindOf (b : Byte) : Option HandsetKind :=
  if b = 0 then some .receiver else if b = 1 then some .mic else none

/-- A filter kind. -/
def filterKindOf (b : Byte) : Option FilterKind :=
  if b = 0 then some .any else if b = 1 then some .receiver else if b = 2 then some .mic else none

/-- A label character lies in 0x20 to 0x7E. -/
def printable (b : Byte) : Bool := 0x20 ≤ b.toNat && b.toNat ≤ 0x7E

/-- A charge level. -/
def chargeLevelOf (b : Byte) : Option ChargeLevel :=
  if b = 0 then some .off else if b = 1 then some .trickle else if b = 2 then some .normal
  else if b = 3 then some .fast else none

/-- A charger state. -/
def chargerOf (b : Byte) : Option ChargerState :=
  if b = 0 then some .idle else if b = 1 then some .charging else if b = 2 then some .full
  else if b = 3 then some .fault else none

/-- A latch state. -/
def latchOf (b : Byte) : Option LatchState :=
  if b = 0 then some .locked else if b = 1 then some .released else none

/-- An image state with the tag in the byte after it; NONE carries no tag (R135). -/
def imageStateOf (b tag : Byte) : Option ImageState :=
  if b = 0 then some .none else if b = 1 then some (.writing tag) else if b = 2 then some (.done tag)
  else if b = 3 then some (.failed tag) else none

/-- A battery level: above 100 is taken as 100. -/
def batteryOf (b : Byte) : Nat := min b.toNat 100

/-! ## Uplink arrivals (R182) -/

/-- The content of a GOOD arrival for a U slot. -/
structure MicBlock where
  id : HandsetId
  key : KeyState
  battery : Nat
  samples : Block
deriving DecidableEq, Repr

/-- The content of a GOOD arrival for a P slot; `kind` is none when its byte is neither code. -/
structure PresenceReport where
  id : HandsetId
  kind : Option HandsetKind
  program : Option (Fin 32)
  battery : Nat
  quality : Nat
deriving DecidableEq, Repr

/-- A mic arrival's status, with its block when GOOD. -/
inductive MicArrival where
  | good (block : MicBlock)
  | bad
  | absent
deriving DecidableEq, Repr

/-- A report slot arrival's status, with its report when GOOD. -/
inductive ReportArrival where
  | good (report : PresenceReport)
  | bad
  | absent
deriving DecidableEq, Repr

/-- An uplink arrival with its tag. -/
inductive Arrival where
  | mic (slot : Fin 16) (tag : Superframe) (content : MicArrival)
  | report (slot : Fin 4) (tag : Superframe) (content : ReportArrival)
deriving DecidableEq, Repr

/-- A MIC BLOCK; none when the content falls short of its length. -/
def micBlockOf : List Byte → Option MicBlock
  | i2 :: i1 :: i0 :: key :: battery :: samples =>
    if samples.length < 320 then none
    else some ⟨word24 i2 i1 i0, if key = 0 then .up else .down, batteryOf battery,
      samplesOf (samples.take 320)⟩
  | _ => none

/-- A PRESENCE REPORT; none when the content falls short of its length. -/
def presenceReportOf : List Byte → Option PresenceReport
  | i2 :: i1 :: i0 :: kind :: program :: battery :: quality :: _ =>
    some ⟨word24 i2 i1 i0, kindOf kind, placeOf 32 program, batteryOf battery, min quality.toNat 15⟩
  | _ => none

/-- A mic arrival: a status outside its codes, and a GOOD one cut short, are BAD. -/
def micArrivalOf (status : Byte) (content : List Byte) : MicArrival :=
  if status = 0 then (match micBlockOf content with | some b => .good b | none => .bad)
  else if status = 2 then .absent else .bad

/-- A report slot arrival, likewise. -/
def reportArrivalOf (status : Byte) (content : List Byte) : ReportArrival :=
  if status = 0 then (match presenceReportOf content with | some r => .good r | none => .bad)
  else if status = 2 then .absent else .bad

/-- An uplink arrival from its header and content; none when AP drops it for its slot code (R182) or
when its header is cut short (DESIGN CHOICE, log 24). -/
def arrivalOf : List Byte → Option Arrival
  | code :: status :: t1 :: t0 :: content =>
    match placeOf 16 code with
    | some k => some (.mic k (word16 t1 t0) (micArrivalOf status content))
    | none =>
      match placeOf 4 (code - 0x10) with
      | some j => some (.report j (word16 t1 t0) (reportArrivalOf status content))
      | none => none
  | _ => none

/-- The downlink slot a fetch's slot code names: 0x20 to 0x2B (spec 11, "Air port"). -/
def downlinkSlotOf (code : Byte) : Option (Fin 12) := placeOf 12 (code - 0x20)

/-! ## Rack replies (spec 11, "Rack link frames") -/

/-- A bay report that passed the checks of R135. -/
structure BayReport where
  occupancy : Occupancy
  kind : HandsetKind
  charger : ChargerState
  latch : LatchState
  image : ImageState
deriving DecidableEq, Repr

/-- Who rests in the bay of a report: EMPTY, or OCCUPIED with an ID that is not 0 and a kind. -/
def reportedOccupant (occupancy kind : Byte) (id : HandsetId) (battery : Byte) :
    Option (Occupancy × HandsetKind) :=
  if occupancy = 0 then some (.empty, .receiver)
  else if occupancy = 1 then
    if id = 0 then none else (kindOf kind).map fun k => (.occupied id (batteryOf battery), k)
  else none

/-- A bay report; none when it is bad (R135, R181). -/
def bayReportOf : List Byte → Option BayReport
  | [occupancy, kind, i2, i1, i0, battery, charger, latch, image, tag] =>
    match reportedOccupant occupancy kind (word24 i2 i1 i0) battery, chargerOf charger,
      latchOf latch, imageStateOf image tag with
    | some (o, k), some c, some l, some i => some ⟨o, k, c, l, i⟩
    | _, _, _, _ => none
  | _ => none

/-- The ten bytes that report bay `b` in a BAY STATUS payload. -/
def bayBytes (payload : List Byte) (b : Fin 24) : List Byte := (payload.drop (3 + 10 * b.val)).take 10

/-- The byte at place `i` of a payload. -/
def byteAt (payload : List Byte) (i : Nat) : Byte := payload.getD i 0

/-- The temperature of a BAY STATUS payload, clamped to −40 to 125 °C (R136). -/
def temperatureOf (payload : List Byte) : Int := (clampInt (-40) 125 (byteAt payload 1).toInt).1

/-- The 24 charge levels of a CHARGE ACK payload; none when a level lies outside the four (R163). -/
def ackLevelsOf (payload : List Byte) : Option (Table 24 ChargeLevel) :=
  if (List.finRange 24).all fun b => (chargeLevelOf (byteAt payload (1 + b.val))).isSome then
    some (.build 24 fun b => (chargeLevelOf (byteAt payload (1 + b.val))).getD .off)
  else none

end Sys2Proof.Machine
end

