-- ==== Sys2Proof/Machine/Framing.lean ====
section
/-! DEFINITION. The framing both links share (R167, R168): the CRC, the escapes, the sending of a frame,
and the receiver with its two states. -/

namespace Sys2Proof.Machine

/-- The byte that begins a frame, and stands nowhere else on the line. -/
def startByte : Byte := 0xA5

/-- The first byte of an escape pair. -/
def escapeByte : Byte := 0xA6

/-! ## The CRC (R167) -/

/-- One bit of the CRC with polynomial x^16 + x^12 + x^5 + 1. -/
def crcBit (c : BitVec 16) : BitVec 16 := if c.msb then (c <<< 1) ^^^ 0x1021 else c <<< 1

/-- One byte of the CRC, its highest bit first. -/
def crcByte (c : BitVec 16) (b : Byte) : BitVec 16 :=
  (List.range 8).foldl (fun d _ => crcBit d) (c ^^^ (b ++ (0 : Byte)))

/-- The CRC of an unescaped body, from 0xFFFF. -/
def crcOf (body : List Byte) : BitVec 16 := body.foldl crcByte 0xFFFF

/-- The high byte of a 16-bit value. -/
def highByte (w : BitVec 16) : Byte := w.extractLsb' 8 8

/-- The low byte of a 16-bit value. -/
def lowByte (w : BitVec 16) : Byte := w.extractLsb' 0 8

/-! ## Sending (R167) -/

/-- A byte of the body or the CRC as it is sent. -/
def escapeOne (b : Byte) : List Byte :=
  if b = startByte then [escapeByte, 0xFF] else if b = escapeByte then [escapeByte, 0xFC] else [b]

/-- The body of a frame: kind, payload length, payload. -/
def frameBody (kind : Byte) (payload : List Byte) : List Byte :=
  kind :: highByte (.ofNat 16 payload.length) :: lowByte (.ofNat 16 payload.length) :: payload

/-- The bytes of a frame on the line. -/
def frameLine (kind : Byte) (payload : List Byte) : List Byte :=
  startByte ::
    (frameBody kind payload ++ [highByte (crcOf (frameBody kind payload)),
      lowByte (crcOf (frameBody kind payload))]).flatMap escapeOne

/-! ## Receiving (R168) -/

/-- The payload limit of a link. -/
def payloadLimit : Link → Nat
  | .site => 340
  | .rack => 260

/-- The kinds a link takes inbound and the payload lengths each allows (spec 11). -/
def kindAllows (link : Link) (kind : Byte) (length : Nat) : Bool :=
  match link with
  | .site => (kind == 0x01 && length == 323) || (kind == 0x02 && 2 ≤ length)
  | .rack =>
    (kind == 0x91 && length == 243) || (kind == 0x92 && length == 25) ||
      (kind == 0x93 && length == 3) || (kind == 0x94 && length == 2)

/-- What a byte brought about at the receiver. -/
inductive ReceiveEvent where
  /-- Nothing is complete yet. -/
  | nothing
  /-- A frame was discarded. -/
  | discarded
  /-- A good frame is complete. -/
  | good (kind : Byte) (payload : List Byte)
deriving DecidableEq, Repr

/-- The check of a complete frame: its kind, its length and its CRC. -/
def completeFrame (link : Link) (kind l1 l0 : Byte) (rest : List Byte) : ReceiveEvent :=
  let length := quantity l1 l0
  let payload := rest.take length
  if kindAllows link kind length &&
      (rest.drop length == [highByte (crcOf (kind :: l1 :: l0 :: payload)),
        lowByte (crcOf (kind :: l1 :: l0 :: payload))])
  then .good kind payload else .discarded

/-- The receiver inside a frame whose unescaped bytes are now `body`. -/
def receiveBody (link : Link) (body : List Byte) : ReceiveState × ReceiveEvent :=
  match body with
  | kind :: l1 :: l0 :: rest =>
    if rest.isEmpty && payloadLimit link < quantity l1 l0 then (.hunt, .discarded)
    else if rest.length = quantity l1 l0 + 2 then (.hunt, completeFrame link kind l1 l0 rest)
    else (.inFrame body false, .nothing)
  | _ => (.inFrame body false, .nothing)

/-- One byte taken by the receiver of a link. -/
def receiveByte (link : Link) (r : ReceiveState) (b : Byte) : ReceiveState × ReceiveEvent :=
  match r with
  | .hunt => (if b = startByte then .inFrame [] false else .hunt, .nothing)
  | .inFrame body escaped =>
    if b = startByte then (.inFrame [] false, .discarded)
    else if escaped then
      if b = 0xFF then receiveBody link (body ++ [startByte])
      else if b = 0xFC then receiveBody link (body ++ [escapeByte])
      else (.hunt, .discarded)
    else if b = escapeByte then (.inFrame body true, .nothing)
    else receiveBody link (body ++ [b])

end Sys2Proof.Machine
end

