-- ==== Sys2Proof/Machine/Format.lean ====
section
/-! DEFINITION. The layouts the part sends (spec 11): CONTROL WORD, MAP BLOCK and downlink blocks on the
air port; ANSWER, NOTICE and TAPOUT frames on the site link; request frames on the rack link. Where the
spec leaves the order or the width of a field to be read from R181, log 16 and log 17 say how. -/

namespace Sys2Proof.Machine

/-! ## Field types (R181) -/

/-- A one-byte number. -/
def byteBytes (n : Nat) : List Byte := [.ofNat 8 n]

/-- A 16-bit value, high byte first. -/
def wordBytes (w : BitVec 16) : List Byte := [highByte w, lowByte w]

/-- A wide quantity: two bytes. -/
def wideBytes (n : Nat) : List Byte := wordBytes (.ofNat 16 n)

/-- A 24-bit value, high byte first. -/
def idBytes (h : BitVec 24) : List Byte :=
  [h.extractLsb' 16 8, h.extractLsb' 8 8, h.extractLsb' 0 8]

/-- A handset ID that may be none: 0. -/
def optIdBytes (h : Option HandsetId) : List Byte := idBytes (h.getD 0)

/-- A place number. -/
def placeBytes {n : Nat} (i : Fin n) : List Byte := [.ofNat 8 i.val]

/-- A place number that may be none: 0xFF. -/
def optPlaceBytes {n : Nat} : Option (Fin n) → List Byte
  | some i => placeBytes i
  | none => [0xFF]

/-- A flag. -/
def flagBytes (b : Bool) : List Byte := [if b then 1 else 0]

/-- A temperature or temperature threshold, two's complement. -/
def signedBytes (t : Int) : List Byte := [.ofInt 8 t]

/-- Samples, two bytes each. -/
def sampleBytes (b : Block) : List Byte := b.flatMap fun x => wordBytes (.ofInt 16 x)

/-- A field of `width` bytes with no none code that may be none: a presence flag before it. -/
def presentBytes {α : Type} (width : Nat) (f : α → List Byte) : Option α → List Byte
  | some a => 1 :: f a
  | none => 0 :: List.replicate width 0

/-- A list of varying length: its count, then its entries. -/
def listBytes {α : Type} (f : α → List Byte) (xs : List α) : List Byte :=
  .ofNat 8 xs.length :: xs.flatMap f

/-- Every place of a table, in ascending number. -/
def tableBytes {n : Nat} {α : Type} (f : α → List Byte) (t : Table n α) : List Byte :=
  t.rows.flatMap f

/-! ## Enumerations (R181) -/

/-- Channel plan. -/
def Plan.code : Plan → List Byte
  | .a => [0]
  | .b => [1]

/-- Downlink block mark. -/
def BlockMark.code : BlockMark → List Byte
  | .program => [0]
  | .fillFromMixer => [1]
  | .fillForLateFetch => [2]

/-- Sync state, by its place in the table of spec 01. -/
def SyncState.code : SyncState → List Byte
  | .stopped => [0]
  | .syncing => [1]
  | .synced => [2]
  | .flywheel => [3]

/-- Detector state, by its place in the table of spec 02. -/
def DetectorState.code : DetectorState → List Byte
  | .silent => [0]
  | .onset => [1]
  | .active => [2]
  | .hanging => [3]

/-- Key state. -/
def KeyState.code : KeyState → List Byte
  | .up => [0]
  | .down => [1]

/-- The outcome of a mic arrival. -/
def ArrivalOutcome.code : ArrivalOutcome → List Byte
  | .good => [0]
  | .bad => [1]
  | .absent => [2]
  | .foreign => [3]

/-- Stream state, by its place in the table of spec 02. -/
def StreamState.code : StreamState → List Byte
  | .priming => [0]
  | .running => [1]

/-- Handset kind. -/
def HandsetKind.code : HandsetKind → List Byte
  | .receiver => [0]
  | .mic => [1]

/-- Filter kind. -/
def FilterKind.code : FilterKind → List Byte
  | .any => [0]
  | .receiver => [1]
  | .mic => [2]

/-- Roster entry state, by its place in the table of spec 05. -/
def EntryStateName.code : EntryStateName → List Byte
  | .empty => [0]
  | .docked => [1]
  | .issued => [2]
  | .missing => [3]
  | .recalled => [4]
  | .loose => [5]

/-- Recognizer state, by its place in the table of spec 06. -/
def RecognizerState.code : RecognizerState → List Byte
  | .idle => [0]
  | .press1 => [1]
  | .gap => [2]
  | .press2 => [3]
  | .holdoff => [4]

/-- Recall cause. -/
def RecallCause.code : RecallCause → List Byte
  | .key => [0]
  | .order => [1]

/-- Recall taken. -/
def RecallTaken.code : RecallTaken → List Byte
  | .added => [0]
  | .restarted => [1]

/-- Rack link state, by its place in the table of spec 07. -/
def RackLinkState.code : RackLinkState → List Byte
  | .unknown => [0]
  | .online => [1]
  | .offline => [2]

/-- Charger. -/
def ChargerState.code : ChargerState → List Byte
  | .idle => [0]
  | .charging => [1]
  | .full => [2]
  | .fault => [3]

/-- Latch. -/
def LatchState.code : LatchState → List Byte
  | .locked => [0]
  | .released => [1]

/-- Charge level. -/
def ChargeLevel.code : ChargeLevel → List Byte
  | .off => [0]
  | .trickle => [1]
  | .normal => [2]
  | .fast => [3]

/-- Transaction state, by its place in the table of spec 08. -/
def TransactionState.code : TransactionState → List Byte
  | .select => [0]
  | .imaging => [1]
  | .releasing => [2]
  | .takeWait => [3]

/-- A retry, by its place in the table of spec 08 (None, IMAGE, RELEASE). -/
def RetryRequest.code : RetryRequest → List Byte
  | .image => [1]
  | .release => [2]

/-- Issue outcome, by its place in the table of R139. -/
def IssueOutcome.code : IssueOutcome → List Byte
  | .taken => [0]
  | .notTaken => [1]
  | .imageFailed => [2]
  | .handsetLost => [3]
  | .cancelled => [4]
  | .rackLost => [5]

/-- Temperature state, by its place in the table of spec 09. -/
def TemperatureState.code : TemperatureState → List Byte
  | .normal => [0]
  | .warm => [1]
  | .hot => [2]

/-- Take dropped reason. -/
def TakeDropReason.code : TakeDropReason → List Byte
  | .night => [0]
  | .noDefault => [1]
  | .busy => [2]
  | .noHandset => [3]
  | .noSlot => [4]

/-- Link state, by its place in the table of spec 10. -/
def SiteLinkState.code : SiteLinkState → List Byte
  | .linked => [0]
  | .standalone => [1]

/-- Hub mode, by its place in the table of spec 10. -/
def HubMode.code : HubMode → List Byte
  | .day => [0]
  | .night => [1]

/-- Answer code. -/
def AnswerCode.code : AnswerCode → List Byte
  | .done => [0]
  | .doneClamped => [1]
  | .accepted => [2]
  | .busy => [3]
  | .noEntry => [4]
  | .refused => [5]
  | .noHandset => [6]
  | .noSlot => [7]
  | .malformed => [8]

/-- The mode of a tap: its code and its period. -/
def TapMode.code : TapMode → List Byte
  | .levelsOnce => [1]
  | .levelsEvery _ => [2]
  | .audio => [3]

/-- The period of a LEVELS-EVERY tap. -/
def TapMode.period : TapMode → Option Nat
  | .levelsEvery p => some p
  | _ => none

/-- An origin and its order's tag. -/
def Origin.bytes : Origin → List Byte
  | .order tag => [0, 1, tag]
  | .default => [1, 0, 0]

/-! ## Names of states and assignments -/

/-- The name of a roster entry's state. -/
def EntryState.name : EntryState → EntryStateName
  | .docked .. => .docked
  | .issued .. => .issued
  | .missing _ => .missing
  | .recalled => .recalled
  | .loose => .loose

/-- The assignment an entry's state holds. -/
def EntryState.work : EntryState → Option Assignment
  | .issued w _ => some w
  | .missing w => some w
  | _ => none

/-- The program of an assignment. -/
def Assignment.program : Assignment → Option (Fin 32)
  | .listener p _ => some p
  | .speaker .. => none

/-- The tour of an assignment. -/
def Assignment.tour : Assignment → Fin 16
  | .listener _ t => t
  | .speaker t _ => t

/-- The uplink slot of an assignment. -/
def Assignment.slot : Assignment → Option (Fin 16)
  | .listener .. => none
  | .speaker _ k => some k

/-- The kind an assignment is for. -/
def Assignment.kind : Assignment → HandsetKind
  | .listener .. => .receiver
  | .speaker .. => .mic

/-- "The program, or the tour and slot": three places, those that do not apply none (log 17). -/
def workBytes : Option Assignment → List Byte
  | some (.listener p _) => placeBytes p ++ [0xFF, 0xFF]
  | some (.speaker t k) => [0xFF] ++ placeBytes t ++ placeBytes k
  | none => [0xFF, 0xFF, 0xFF]

/-! ## Air port (spec 11) -/

/-- The 86 bytes of a MAP BLOCK. A plan not yet written is sent as bit 0 (log 23). -/
def MapBlock.bytes (m : MapBlock) : List Byte :=
  wordBytes m.target ++
    [(if m.plan = some .b then 1 else 0) ||| (if m.void then 2 else 0) |||
      (if m.allCallSlot.isSome then 4 else 0)] ++
    optPlaceBytes m.allCallSlot ++ tableBytes optPlaceBytes m.slots ++
    tableBytes optIdBytes m.uplinks ++ byteBytes m.retunes.length ++
    ((m.retunes.flatMap fun r => idBytes r.id ++ placeBytes r.program) ++
      List.replicate (4 * (4 - m.retunes.length)) 0) ++
    byteBytes m.recalls.length ++ (m.recalls.flatMap placeBytes ++
      List.replicate (4 - m.recalls.length) 0)

/-- A downlink block. -/
def DownlinkBlock.bytes (b : DownlinkBlock) : List Byte :=
  wordBytes b.tag ++ b.mark.code ++ sampleBytes b.samples

/-- A transfer on ADAT_OUT. A downlink block and a map are sent with no slot code before the fields of their tables
(DESIGN CHOICE, log 45). -/
def AirTransfer.bytes : AirTransfer → List Byte
  | .controlWord n plan transmit =>
    [0x3F] ++ wordBytes n ++ [(if plan = .b then 1 else 0) ||| (if transmit then 2 else 0)]
  | .downlink b => b.bytes
  | .map m => m.bytes

/-! ## Rack link (spec 11) -/

/-- The handset image, with its language list. -/
def HandsetImage.bytes (i : HandsetImage) : List Byte :=
  idBytes i.id ++ i.kind.code ++ [i.tag] ++ placeBytes i.tour ++ optPlaceBytes i.program ++
    optPlaceBytes i.slot ++ byteBytes i.volumeCap ++
    listBytes (fun x => placeBytes x.1 ++ [x.2.c0, x.2.c1, x.2.c2, x.2.c3]) i.languages

/-- The frame kind of a request. -/
def RackRequest.frameKind : RackRequest → Byte
  | .poll => 0x11
  | .charge _ => 0x12
  | .image .. => 0x13
  | .release .. => 0x14

/-- The frame kind of the reply that matches a request (R126). -/
def RackRequest.replyKind : RackRequest → Byte
  | .poll => 0x91
  | .charge _ => 0x92
  | .image .. => 0x93
  | .release .. => 0x94

/-- The payload of a request frame. -/
def Exchange.payload (x : Exchange) : List Byte :=
  placeBytes x.rack ++
    match x.request with
    | .poll => []
    | .charge levels => tableBytes ChargeLevel.code levels
    | .image bay content => placeBytes bay ++ content.bytes
    | .release bay _ => placeBytes bay

/-- The bytes of a request frame on the rack line. -/
def Exchange.line (x : Exchange) : List Byte := frameLine x.request.frameKind x.payload

/-- The requester and the request kind of an exchange as READ names them (R137). -/
def RackRequest.readBytes : RackRequest → List Byte × List Byte
  | .poll => ([0], [0])
  | .charge _ => ([1], [1])
  | .image .. => ([2], [2])
  | .release .. => ([2], [3])

/-! ## Site link (spec 11) -/

/-- The data of a notice, in the order its rule names the fields. -/
def Notice.data : Notice → List Byte
  | .issueResult outcome origin tx imageTag id kind rack bay newState work =>
    outcome.code ++ origin.bytes ++ placeBytes tx ++ [imageTag] ++ idBytes id ++ kind.code ++
      placeBytes rack ++ placeBytes bay ++ presentBytes 1 EntryStateName.code newState ++
      workBytes work
  | .returned id kind entry rack bay battery left work =>
    idBytes id ++ kind.code ++ wideBytes entry.val ++ placeBytes rack ++ placeBytes bay ++
      byteBytes battery ++ left.code ++ workBytes work
  | .unissuedRemoval id kind entry rack bay battery =>
    idBytes id ++ kind.code ++ wideBytes entry.val ++ placeBytes rack ++ placeBytes bay ++
      byteBytes battery
  | .enrolled id kind entry rack bay battery =>
    idBytes id ++ kind.code ++ wideBytes entry.val ++ placeBytes rack ++ placeBytes bay ++
      byteBytes battery
  | .rosterFull id kind rack bay => idBytes id ++ kind.code ++ placeBytes rack ++ placeBytes bay
  | .stray id kind program battery quality filterEntry =>
    idBytes id ++ kind.code ++ optPlaceBytes program ++ byteBytes battery ++ byteBytes quality ++
      placeBytes filterEntry
  | .takeRequest rack program kind => placeBytes rack ++ optPlaceBytes program ++ kind.code
  | .takeDefaulted rack tx work bay id =>
    placeBytes rack ++ placeBytes tx ++ work.kind.code ++ optPlaceBytes work.program ++
      (match work with | .listener .. => [0xFF] | .speaker t _ => placeBytes t) ++
      placeBytes bay ++ idBytes id
  | .takeDropped rack presses reason =>
    placeBytes rack ++ presentBytes 1 byteBytes presses ++ reason.code
  | .recall tour cause taken source =>
    placeBytes tour ++ cause.code ++ taken.code ++ optPlaceBytes (source.map Prod.fst) ++
      optIdBytes (source.map Prod.snd)
  | .recallDropped tour slot id => placeBytes tour ++ placeBytes slot ++ idBytes id
  | .longWait program tier waitAge => placeBytes program ++ byteBytes tier ++ wideBytes waitAge
  | .lowBattery id kind battery state work =>
    idBytes id ++ kind.code ++ byteBytes battery ++ state.code ++ workBytes work
  | .chargerFault rack bay id battery temperature =>
    placeBytes rack ++ placeBytes bay ++ optIdBytes id ++ presentBytes 1 byteBytes battery ++
      signedBytes temperature
  | .missing id kind work battery =>
    idBytes id ++ kind.code ++ workBytes (some work) ++ byteBytes battery
  | .found id kind work battery quality =>
    idBytes id ++ kind.code ++ placeBytes work.tour ++ optPlaceBytes work.slot ++
      byteBytes battery ++ presentBytes 1 byteBytes quality
  | .interference plan => plan.code
  | .tapLevels program level limiterGain listeners slot sources =>
    placeBytes program ++ wideBytes level ++ wideBytes limiterGain ++ wideBytes listeners ++
      presentBytes 1 placeBytes slot ++
      listBytes (fun x => placeBytes x.source ++ wideBytes x.level ++ x.detector.code) sources
  | .syncLost => [0xFF]
  | .airDegraded => [0xFF]
  | .rackOffline rack => placeBytes rack
  | .rackHot rack => placeBytes rack
  | .noticesLost => [0xFF]

/-- The frame kind of an outgoing frame. -/
def OutFrame.frameKind : OutFrame → Byte
  | .answer _ => 0x81
  | .notice _ => 0x82
  | .tapout _ => 0x83

/-- The payload of an outgoing frame. -/
def OutFrame.payload : OutFrame → List Byte
  | .answer a => [a.tag] ++ a.code.code ++ a.data
  | .notice n => [.ofNat 8 (n.notice.maskEntry.val + 1)] ++ wordBytes n.superframe ++ n.notice.data
  | .tapout t =>
    placeBytes t.program ++ wordBytes t.target ++ wideBytes t.level ++ sampleBytes t.samples

/-- The bytes of an outgoing frame on STX. -/
def OutFrame.line (f : OutFrame) : List Byte := frameLine f.frameKind f.payload

end Sys2Proof.Machine
end

