-- ==== Sys2Proof/Machine/Transmit.lean ====
section
/-! DEFINITION. SLI's sending side (spec 10, R169): the choice of the frame to transmit, and the frame of
every command's meaning: nothing while RESET_N is low, and at the end of the event the next frame starts
(log 8). -/

namespace Sys2Proof.Machine

/-- A notice leaves the queue for transmission; a due NOTICES LOST notice takes the freed place
(R174). -/
def SiteLink.freeNoticePlace (superframe : Superframe) (rest : List NoticeFrame) (l : SiteLink) :
    SiteLink :=
  if l.noticesLostDue then
    { l with notices := rest ++ [⟨superframe, .noticesLost⟩], noticesLostDue := false }
  else { l with notices := rest }

/-- When no frame is in transmission, the oldest ANSWER starts, else the oldest NOTICE, else the oldest
TAPOUT (R169). -/
def State.startTransmission (s : State) : State :=
  match s.sli.transmitting with
  | some _ => s
  | none =>
    match s.sli.answers, s.sli.notices, s.sli.tapouts with
    | a :: rest, _, _ =>
      s.onSli fun l => { l with transmitting := some (.answer a), answers := rest }
    | [], n :: rest, _ =>
      s.onSli fun l =>
        { l.freeNoticePlace s.ap.superframe rest with transmitting := some (.notice n) }
    | [], [], t :: rest =>
      s.onSli fun l => { l with transmitting := some (.tapout t), tapouts := rest }
    | [], [], [] => s

/-- MIX hands SLI a TAPOUT frame; beyond two waiting it is dropped and counted (R169). -/
def State.queueTapout (s : State) (t : TapoutFrame) : State :=
  if s.sli.tapouts.length < 2 then s.onSli fun l => { l with tapouts := l.tapouts ++ [t] }
  else s.onSli fun l => { l with tapoutDrops := bump l.tapoutDrops }

/-- The outcome of a command whose effect is `f`. -/
def complete (s : State) (f : State → State) : Host.Outcome State Fault Refusal :=
  .next (s.unlessHeld fun s => (f s).startTransmission)

end Sys2Proof.Machine
end

