-- ==== Sys2Proof/Machine/Sources.lean ====
section
/-! DEFINITION. The Source Stage (spec 02): gain, level and the activity detector; the block store; mic
blocks and missing blocks; the jitter queues of the streams; clearing. -/

namespace Sys2Proof.Machine

/-! ## Gain, clamp and level (R21) -/

/-- A block scaled by a gain and clamped to the sample range. -/
def gainBlock (g : Nat) (b : Block) : Block := b.map fun x => clampSample (scale x g)

/-- How many samples of the scaled block the clamp changes. -/
def clipCount (g : Nat) (b : Block) : Nat :=
  b.countP fun x => clampSample (scale x g) != scale x g

/-! ## The activity detector (R22, R23) -/

/-- A source is speaking while its detector is ACTIVE or HANGING. -/
def Source.speaking (r : Source) : Bool := r.detector = .active || r.detector = .hanging

/-- A detector step with level `level`. -/
def Source.stepDetector (level : Nat) (r : Source) : Source :=
  match r.detector with
  | .silent =>
    if level < r.onThreshold then r
    else if r.attack = 1 then { r with attackCounter := 0, detector := .active }
    else { r with attackCounter := 1, detector := .onset }
  | .onset =>
    if level < r.onThreshold then { r with attackCounter := 0, detector := .silent }
    else if r.attack ≤ r.attackCounter + 1 then { r with attackCounter := 0, detector := .active }
    else { r with attackCounter := r.attackCounter + 1 }
  | .active =>
    if r.offThreshold ≤ level then r
    else if 0 < r.hang then { r with hangCounter := r.hang, detector := .hanging }
    else { r with detector := .silent }
  | .hanging =>
    if r.onThreshold ≤ level then { r with hangCounter := 0, detector := .active }
    else if r.hangCounter ≤ 1 then { r with hangCounter := 0, detector := .silent }
    else { r with hangCounter := r.hangCounter - 1 }

/-- A level becomes the last level and steps the detector (R21). -/
def Source.hearLevel (level : Nat) (r : Source) : Source :=
  { r.stepDetector level with lastLevel := level }

/-- A detector reset (R23). -/
def Source.resetDetector (r : Source) : Source :=
  { r with detector := .silent, attackCounter := 0, hangCounter := 0, lastLevel := 0 }

/-! ## The block store (R24, R25) -/

/-- The stored block tagged `t`. -/
def Source.blockTagged (r : Source) (t : Superframe) : Option StoredBlock :=
  r.store.find? fun b => b.tag == t

/-- The oldest tag of a store, counting back from superframe `n`. -/
def oldestTag (n : Superframe) : List StoredBlock → Option Superframe
  | [] => none
  | b :: rest =>
    match oldestTag n rest with
    | none => some b.tag
    | some t => if (n - b.tag).toNat < (n - t).toNat then some t else some b.tag

/-- Put `new` in the place of the block tagged `t`. -/
def replaceTagged (t : Superframe) (new : StoredBlock) (store : List StoredBlock) :
    List StoredBlock :=
  store.map fun b => if b.tag == t then new else b

/-- A processed block joins a store while `n` is the superframe number (R24): in the place of the block it
replaces, else behind the blocks held (DESIGN CHOICE, log 38). -/
def storeBlock (n : Superframe) (new : StoredBlock) (store : List StoredBlock) :
    List StoredBlock :=
  if store.any fun b => b.tag == new.tag then replaceTagged new.tag new store
  else if store.length < 3 then store ++ [new]
  else match oldestTag n store with
    | some t => replaceTagged t new store
    | none => store

/-- Pruning at start `n`: only blocks tagged n − 1 and n − 2 stay (R25). -/
def Source.prune (n : Superframe) (r : Source) : Source :=
  { r with store := r.store.filter fun b => b.tag == n - 1 || b.tag == n - 2 }

/-! ## Mic sources (R26 to R29) -/

/-- Mic source k of uplink slot Uk. -/
def micSource (k : Fin 16) : Fin 24 := ⟨k.val, by omega⟩

/-- Mic source k when its slot becomes unbound (R26). -/
def Source.unbind (r : Source) : Source :=
  { r.resetDetector with store := [], lastArrival := none, lastRawKey := .up }

/-- The samples of a mic block after gain, clamp and key muting (R28, steps 1 and 2). -/
def mutedSamples (g : Nat) (b : MicBlock) : Block :=
  match b.key with
  | .up => (gainBlock g b.samples).map fun _ => 0
  | .down => gainBlock g b.samples

/-- A good block for superframe `n` (R28, steps 1 to 6, and its outcome under R27). -/
def Source.goodBlock (n : Superframe) (b : MicBlock) (r : Source) : Source :=
  let samples := mutedSamples r.gain b
  let heard := r.hearLevel (blockLevel samples)
  { heard with
    sourceClips := bumpBy (clipCount r.gain b.samples) heard.sourceClips
    store := storeBlock n ⟨n, samples⟩ heard.store
    lastRawKey := b.key
    lastArrival := some (n, .good) }

/-- A missing block for superframe `n` with its outcome (R27, R29). -/
def Source.missingBlock (n : Superframe) (outcome : ArrivalOutcome) (r : Source) : Source :=
  { r.hearLevel 0 with
    missingBlocks := bump r.missingBlocks
    lastArrival := some (n, outcome) }

/-! ## Stream sources (R30 to R33) -/

/-- The stream with index 16 to 23 that a byte names. -/
def streamOf (b : Byte) : Option (Fin 24) :=
  if h : 16 ≤ b.toNat ∧ b.toNat < 24 then some ⟨b.toNat, h.2⟩ else none

/-- Sources 16 to 23 are streams. -/
def isStream (k : Fin 24) : Bool := 16 ≤ k.val

/-- The number a FEED must be ahead of: the tail's, or the reference sequence of an empty queue. -/
def Source.feedReference (r : Source) : Option SeqNumber :=
  match r.queue.getLast? with
  | some b => some b.seqNumber
  | none => r.referenceSeq

/-- A block leaves the queue: its number becomes the reference sequence. -/
def Source.dropHead (r : Source) : Source :=
  match r.queue with
  | [] => r
  | b :: rest => { r with queue := rest, referenceSeq := some b.seqNumber }

/-- A FEED frame for an ENABLED stream in DAY (R30). -/
def Source.takeFeed (new : FeedBlock) (r : Source) : Source :=
  let stale := match r.feedReference with
    | some f => !ahead new.seqNumber f
    | none => false
  if stale then { r with staleFeeds := bump r.staleFeeds }
  else if 8 ≤ r.queue.length then
    { r.dropHead with
      queue := r.dropHead.queue ++ [new]
      overflowDrops := bump r.overflowDrops }
  else { r with queue := r.queue ++ [new] }

/-- A raw block matches the idle pattern at every position the mask compares (R33). -/
def Source.isIdle (r : Source) (b : Block) : Bool :=
  r.idleDetection && b.all fun x => (BitVec.ofInt 16 x ^^^ r.idlePattern) &&& r.idleMask == 0

/-- A dequeued block processed for superframe `n` (R33). -/
def Source.playBlock (n : Superframe) (b : Block) (r : Source) : Source :=
  if r.isIdle b then r.hearLevel 0
  else
    let samples := gainBlock r.gain b
    let heard := r.hearLevel (blockLevel samples)
    { heard with
      sourceClips := bumpBy (clipCount r.gain b) heard.sourceClips
      store := storeBlock n ⟨n, samples⟩ heard.store }

/-- The slip check after a dequeue step (R32). -/
def Source.checkSlip (r : Source) : Source :=
  if r.queue.length ≤ 6 then { r with highMarkRun := 0 }
  else if r.highMarkRun + 1 < 50 then { r with highMarkRun := r.highMarkRun + 1 }
  else { r.dropHead with slips := bump r.slips, highMarkRun := 0 }

/-- A dequeue in RUNNING at start `n` (R31). -/
def Source.runStream (n : Superframe) (r : Source) : Source :=
  match r.queue with
  | b :: _ =>
    (({ r.dropHead with underrunRun := 0 } : Source).playBlock n b.samples).checkSlip
  | [] =>
    let u := { r.hearLevel 0 with underruns := bump r.underruns, highMarkRun := 0 }
    if r.underrunRun + 1 < 3 then { u with underrunRun := r.underrunRun + 1 }
    else { u with underrunRun := 0, stream := .priming, referenceSeq := none }

/-- The dequeue step of an ENABLED stream at start `n` (R31). -/
def Source.dequeue (n : Superframe) (r : Source) : Source :=
  match r.stream with
  | .priming =>
    if r.queue.length < 3 then { r.hearLevel 0 with highMarkRun := 0 }
    else ({ r with stream := .running, underrunRun := 0 } : Source).runStream n
  | .running => r.runStream n

/-! ## Clearing (R19, R34 to R37) -/

/-- A stream is disabled (R19). -/
def Source.disable (r : Source) : Source :=
  { r.resetDetector with
    queue := [], stream := .priming, referenceSeq := none, underrunRun := 0, highMarkRun := 0
    store := [] }

/-- The end of superframes (R34). -/
def Source.endSuperframes (r : Source) : Source :=
  { r.resetDetector with
    store := [], lastArrival := none, stream := .priming, underrunRun := 0, highMarkRun := 0 }

/-- Entry to NIGHT clears the dynamic state (R35). -/
def Source.clearDynamic (r : Source) : Source :=
  { r.endSuperframes with lastRawKey := .up, queue := [], referenceSeq := none }

/-- An AIR reset also clears the counters (R37). -/
def Source.airReset (r : Source) : Source :=
  { r.clearDynamic with
    sourceClips := 0, lateBlocks := 0, foreignBlocks := 0, missingBlocks := 0, underruns := 0
    slips := 0, overflowDrops := 0, staleFeeds := 0 }

/-- SRC takes superframe start `n`: pruning, and one dequeue step for every ENABLED stream (R25,
R31). -/
def State.sourcesStart (n : Superframe) (s : State) : State :=
  { s with
    sources := .build 24 fun k =>
      let r := (s.source k).prune n
      if isStream k && r.enabled then r.dequeue n else r }

end Sys2Proof.Machine
end

