-- ==== Sys2Proof/Machine/Tours.lean ====
section
/-! DEFINITION. Tour Control (spec 06): the key recognizer and the recall orders. -/

namespace Sys2Proof.Machine

/-! ## The key recognizer (R113 to R116) -/

/-- The filtered key after raw key `raw`, and whether this arrival is a filtered change (R113). -/
def Recognizer.filterKey (raw : KeyState) (r : Recognizer) : Recognizer × Bool :=
  if raw = r.key then ({ r with disagreement := 0 }, false)
  else if r.disagreement < 2 then ({ r with disagreement := r.disagreement + 1 }, false)
  else ({ r with key := raw, disagreement := 0 }, true)

/-- The recognizer in `state` with the press, gap and window counts at 0. -/
def Recognizer.enter (state : RecognizerState) (r : Recognizer) : Recognizer :=
  { r with state := state, press := 0, gapCount := 0, window := 0 }

/-- A first press begins a new attempt. -/
def Recognizer.firstPress (r : Recognizer) : Recognizer :=
  { r with state := .press1, press := 1, gapCount := 0, window := 1 }

/-- A press goes on; at 51 it is speech (R114). -/
def Recognizer.holdPress (r : Recognizer) : Recognizer :=
  if r.press + 1 < 51 then { r with press := r.press + 1 } else r.enter .holdoff

/-- The table of R114, after the window check; the Bool says that a recall is raised. -/
def Recognizer.stepTable (changed : Bool) (r : Recognizer) : Recognizer × Bool :=
  match r.state with
  | .idle => (if changed && r.key = .down then r.firstPress else r, false)
  | .press1 =>
    if !changed then (r.holdPress, false)
    else if 20 ≤ r.press then ({ r with state := .gap, press := 0, gapCount := 1 }, false)
    else (r.enter .idle, false)
  | .gap =>
    if !changed then
      (if r.gapCount + 1 < 51 then { r with gapCount := r.gapCount + 1 } else r.enter .idle, false)
    else if 10 ≤ r.gapCount then ({ r with state := .press2, press := 1, gapCount := 0 }, false)
    else (r.firstPress, false)
  | .press2 =>
    if !changed then (r.holdPress, false) else (r.enter .idle, 20 ≤ r.press)
  | .holdoff => (if changed && r.key = .up then r.enter .idle else r, false)

/-- The state is one of a pattern being given, in which the window count runs (R115). -/
def RecognizerState.inPattern : RecognizerState → Bool
  | .press1 => true
  | .gap => true
  | .press2 => true
  | .idle => false
  | .holdoff => false

/-- The step of R114 with the window of R115 applied before anything else. -/
def Recognizer.step (changed : Bool) (r : Recognizer) : Recognizer × Bool :=
  if r.state.inPattern then
    if 150 < r.window + 1 then (r.enter (if r.key = .up then .idle else .holdoff), false)
    else Recognizer.stepTable changed { r with window := r.window + 1 }
  else r.stepTable changed

/-- One key state taken: the filtered key, then the step (R113, R114). -/
def Recognizer.takeKey (raw : KeyState) (r : Recognizer) : Recognizer × Bool :=
  (r.filterKey raw).1.step (r.filterKey raw).2

/-! ## Recall orders (R117, R119) -/

/-- The recall orders TRC holds: those whose countdown has not reached 0 (log 5). -/
def TourControl.held (c : TourControl) : List RecallOrder := c.recalls.filter fun o => 0 < o.countdown

/-- A recall for `tour` is taken: restarted, added, or not added when four others are held (R117). -/
def TourControl.takeRecall (tour : Fin 16) (cause : RecallCause) (c : TourControl) :
    TourControl × Option RecallTaken :=
  if c.held.any fun o => o.tour == tour then
    ({ c with
        recalls := c.held.map fun o => if o.tour == tour then ⟨tour, cause, 50⟩ else o },
      some .restarted)
  else if c.held.length < 4 then
    ({ c with recalls := c.held ++ [⟨tour, cause, 50⟩] }, some .added)
  else (c, none)

/-- A recall raised for a tour, with the slot and microphone of a key pattern: taken, and its RECALL
notice sent (R117). -/
def State.raiseRecall (s : State) (tour : Fin 16) (cause : RecallCause)
    (source : Option (Fin 16 × HandsetId)) : State × Option RecallTaken :=
  match s.trc.takeRecall tour cause with
  | (c, some taken) =>
    ((s.onTrc fun _ => c).sendNotice (.recall tour cause taken source), some taken)
  | (_, none) => (s, none)

/-- A key pattern on slot Uk raises a recall for the tour of the microphone bound to it; one that is not
added is dropped with a notice (R114, R117). -/
def State.keyRecall (s : State) (k : Fin 16) (id : HandsetId) (tour : Fin 16) : State :=
  match s.raiseRecall tour .key (some (k, id)) with
  | (s', some _) => s'
  | (s', none) => s'.sendNotice (.recallDropped tour k id)

/-- The key state of a mic arrival of slot Uk, bound to microphone `id` of `tour`, reaches TRC (R113). -/
def State.takeKey (s : State) (k : Fin 16) (id : HandsetId) (tour : Fin 16) (raw : KeyState) :
    State :=
  let out := (s.trc.recognizers.get k).takeKey raw
  let s := s.onTrc fun c => { c with recognizers := c.recognizers.set k out.1 }
  if out.2 then s.keyRecall k id tour else s

/-- TRC takes a superframe start: every repeat countdown falls by one (R119); an order at 0 waits for its
expiry to be taken (log 5), and one still waiting from an earlier start is gone. -/
def State.toursStart (s : State) : State :=
  s.onTrc fun c =>
    { c with recalls := c.held.map fun o => { o with countdown := o.countdown - 1 } }

/-- A recall order whose countdown has reached 0 is removed, with no notice (R119). -/
def State.expireRecall (s : State) (tour : Fin 16) : State :=
  s.onTrc fun c =>
    { c with recalls := c.recalls.filter fun o => !(o.tour == tour && o.countdown == 0) }

/-- TRC's reset state: no recall orders, every recognizer reset (R116, R122). -/
def State.clearTours (s : State) : State := s.onTrc fun _ => .reset

/-- The tours of the recalls the map carries, ascending (R75). -/
def TourControl.recallTours (c : TourControl) : List (Fin 16) :=
  (List.finRange 16).filter fun t => c.held.any fun o => o.tour == t

end Sys2Proof.Machine
end

