-- ==== Sys2Proof/Machine/Scheduler.lean ====
section
/-! DEFINITION. The Airtime Scheduler (spec 04): demand, holders and waiters, the six steps of a superframe
start, the map, the retune queue, closing and clearing. -/

namespace Sys2Proof.Machine

/-! ## Holders and waiters (R63, R64) -/

/-- Program `p` gains slot `d` at start `n` (R63). -/
def Scheduler.gainSlot (n : Superframe) (p : Fin 32) (d : Fin 12) (a : Scheduler) : Scheduler :=
  { a with
    holders := a.holders.set d (some p)
    perProgram := a.perProgram.modify p fun f =>
      { f with
        holderSlot := some d, grantSuperframe := some n, heldCount := 0, releaseCountdown := none } }

/-- Program `p` leaves its slot `d` (R63). -/
def Scheduler.leaveSlot (p : Fin 32) (d : Fin 12) (a : Scheduler) : Scheduler :=
  { a with
    holders := a.holders.set d none
    perProgram := a.perProgram.modify p fun f =>
      { f with
        holderSlot := none, grantSuperframe := none, heldCount := 0, releaseCountdown := none } }

/-- The wait fields of a program that joins or leaves the queue (R64). -/
def ProgramSchedule.clearWait (f : ProgramSchedule) : ProgramSchedule :=
  { f with waitAge := 0, longWaitMark := false }

/-- Program `p` leaves the wait queue (R64). -/
def Scheduler.leaveQueue (p : Fin 32) (a : Scheduler) : Scheduler :=
  { a with
    waitQueue := a.waitQueue.filter (· != p)
    perProgram := a.perProgram.modify p ProgramSchedule.clearWait }

/-- Program `p` joins the wait queue at the tail (R64). -/
def Scheduler.joinTail (p : Fin 32) (a : Scheduler) : Scheduler :=
  { a with
    waitQueue := a.waitQueue ++ [p]
    perProgram := a.perProgram.modify p ProgramSchedule.clearWait }

/-- A preempted program is placed at the head of the wait queue (R64, R71). -/
def Scheduler.joinHead (p : Fin 32) (a : Scheduler) : Scheduler :=
  { a with
    waitQueue := p :: a.waitQueue
    perProgram := a.perProgram.modify p ProgramSchedule.clearWait }

/-! ## Demand (R65) -/

/-- At least one used entry of the program's mix list names a speaking source. -/
def State.anySpeaking (s : State) (p : Fin 32) : Bool :=
  (s.program p).mixList.any fun e => (s.source e.source).speaking

/-- Program `p` demands a slot (R65). -/
def State.demands (s : State) (p : Fin 32) : Bool :=
  let r := s.program p
  r.isOpen && (0 < s.hrs.listeners.get p || r.allCall || r.holdOpen) &&
    (s.anySpeaking p || r.test || r.holdOpen)

/-- The demand of every program, judged once at a start (R66). -/
def State.demandTable (s : State) : Table 32 Bool := .build 32 s.demands

/-! ## Steps 1 and 2: release (R67, R68) -/

/-- Step 1 for slot `d`: its holder's held count rises; a holder with no listeners and neither ALL-CALL
nor HOLD-OPEN is released. -/
def State.releaseIneligible (s : State) (a : Scheduler) (d : Fin 12) : Scheduler :=
  match a.holders.get d with
  | none => a
  | some p =>
    let a := { a with
      perProgram := a.perProgram.modify p fun f => { f with heldCount := bump f.heldCount } }
    let r := s.program p
    if s.hrs.listeners.get p = 0 && !r.allCall && !r.holdOpen then a.leaveSlot p d else a

/-- Step 2 for slot `d`: the release countdown of its holder (R68). -/
def Scheduler.countRelease (demand : Table 32 Bool) (a : Scheduler) (d : Fin 12) : Scheduler :=
  match a.holders.get d with
  | none => a
  | some p =>
    let setCountdown (c : Option Nat) : Scheduler :=
      { a with perProgram := a.perProgram.modify p fun f => { f with releaseCountdown := c } }
    if demand.get p then setCountdown none
    else match (a.perProgram.get p).releaseCountdown with
      | none => if a.releaseDelay = 0 then a.leaveSlot p d else setCountdown (some a.releaseDelay)
      | some c => if c ≤ 1 then a.leaveSlot p d else setCountdown (some (c - 1))

/-! ## Step 3: the wait queue (R69) -/

/-- Waiting programs that do not demand leave the queue. -/
def Scheduler.dropIdleWaiters (demand : Table 32 Bool) (a : Scheduler) : Scheduler :=
  (a.waitQueue.filter fun p => !demand.get p).foldl (fun a p => a.leaveQueue p) a

/-- A waiting program's age and counter rise by one. -/
def ProgramSchedule.age (f : ProgramSchedule) : ProgramSchedule :=
  { f with waitAge := min 6001 (f.waitAge + 1), waitSuperframes := bump f.waitSuperframes }

/-- A waiting program ages, and its LONG WAIT notice is sent when it is due. -/
def State.ageWaiter (n : Superframe) (s : State) (p : Fin 32) : State :=
  let f := (s.ats.perProgram.get p).age
  if s.ats.longWaitLimit < f.waitAge && !f.longWaitMark then
    (s.onAts fun a => { a with perProgram := a.perProgram.set p { f with longWaitMark := true } })
      |>.sendNoticeAt n (.longWait p (s.program p).tier f.waitAge)
  else s.onAts fun a => { a with perProgram := a.perProgram.set p f }

/-- Programs that demand, hold no slot and do not wait join the queue in ascending index. -/
def Scheduler.joinDemanders (demand : Table 32 Bool) (a : Scheduler) : Scheduler :=
  ((List.finRange 32).filter fun p =>
    demand.get p && (a.perProgram.get p).holderSlot.isNone && !a.waitQueue.contains p).foldl
    (fun a p => a.joinTail p) a

/-! ## Step 4: grants (R70) -/

/-- A program's effective tier: 4 for the ALL-CALL program. -/
def State.effectiveTier (s : State) (p : Fin 32) : Nat :=
  if (s.program p).allCall then 4 else (s.program p).tier

/-- The first, in queue order, of the waiting programs of the highest effective tier. -/
def bestWaiter (tier : Fin 32 → Nat) : List (Fin 32) → Option (Fin 32)
  | [] => none
  | p :: rest =>
    match bestWaiter tier rest with
    | none => some p
    | some q => if tier p < tier q then some q else some p

/-- Grants while a slot is free and the queue is not empty; there are at most twelve. -/
def State.grantSlots (s : State) (n : Superframe) : Nat → Scheduler → Scheduler
  | 0, a => a
  | k + 1, a =>
    match a.holders.find Option.isNone, bestWaiter s.effectiveTier a.waitQueue with
    | some d, some p => s.grantSlots n k ((a.leaveQueue p).gainSlot n p d)
    | _, _ => a

/-! ## Step 5: ALL-CALL preemption (R71) -/

/-- Holder `q` in slot `e` gives way before holder `p` in slot `d`, `e` after `d`: a lower tier, or the
same tier and a held count no greater. -/
def State.givesWayBefore (s : State) (a : Scheduler) (q p : Fin 32) : Bool :=
  let tq := (s.program q).tier
  let tp := (s.program p).tier
  tq < tp || (tq = tp && (a.perProgram.get q).heldCount ≤ (a.perProgram.get p).heldCount)

/-- The holder that loses its slot: lowest tier, then smallest held count, then highest slot. -/
def State.chooseVictim (s : State) (a : Scheduler) : Option (Fin 12 × Fin 32) :=
  (List.finRange 12).foldl (fun best e =>
    match a.holders.get e, best with
    | none, _ => best
    | some q, none => some (e, q)
    | some q, some (_, p) => if s.givesWayBefore a q p then some (e, q) else best) none

/-- The program with ALL-CALL set. -/
def State.allCallProgram (s : State) : Option (Fin 32) := s.programs.find Program.allCall

/-- The waiting ALL-CALL program takes the slot of the chosen holder. -/
def State.preempt (s : State) (n : Superframe) (a : Scheduler) : Scheduler :=
  match s.allCallProgram with
  | none => a
  | some c =>
    if a.waitQueue.contains c then
      match s.chooseVictim a with
      | none => a
      | some (d, p) =>
        let a := (a.leaveSlot p d).joinHead p
        let a := (a.leaveQueue c).gainSlot n c d
        { a with preemptions := bump a.preemptions }
    else a

/-! ## Step 6: the map (R72 to R76) -/

/-- Up to four retune orders for OPEN programs leave the queue for the map, oldest first; orders for
CLOSED programs met on the way are dropped (R74). -/
def takeRetunes (isOpen : Fin 32 → Bool) : Nat → List RetuneOrder → List RetuneOrder × List RetuneOrder
  | _, [] => ([], [])
  | 0, rest => ([], rest)
  | k + 1, o :: rest =>
    if isOpen o.program then
      let out := takeRetunes isOpen k rest
      (o :: out.1, out.2)
    else takeRetunes isOpen (k + 1) rest

/-- The handset ID of the uplink entry of slot Uk: that of the MIC entry bound to it (R73). -/
def State.boundHandset (s : State) (k : Fin 16) : Option RosterEntry :=
  match s.hrs.slots.get k with
  | .bound e => s.entry e
  | _ => none

/-- The map ATS builds at start `n` for `n + 1` (R72), with its retune orders. -/
def State.mapFor (s : State) (n : Superframe) (retunes : List RetuneOrder) : MapBlock where
  target := n + 1
  plan := none
  void := false
  allCallSlot := s.allCallProgram.bind fun c => (s.ats.perProgram.get c).holderSlot
  slots := s.ats.holders
  uplinks := .build 16 fun k => (s.boundHandset k).map RosterEntry.id
  retunes := retunes
  recalls := s.trc.recallTours

/-- The request set of a map: each program a slot entry names, with that slot, ascending (R76). -/
def requestSetOf (m : MapBlock) : MixRequestSet :=
  ⟨m.target, (List.finRange 12).filterMap fun d => (m.slots.get d).map fun p => (p, d)⟩

/-- Build the map for `n + 1`, place it with AP and send the request set. -/
def State.buildMap (n : Superframe) (s : State) : State :=
  let out := takeRetunes (fun p => (s.program p).isOpen) 4 s.ats.retuneQueue
  let m := s.mapFor n out.1
  (s.onAts fun a => { a with retuneQueue := out.2, builtMap := some m }).onHandovers fun h =>
    { h with
      placements := h.placements ++ [.map m]
      mixSets := h.mixSets ++ [requestSetOf m] }

/-- ATS takes superframe start `n`: its six steps in order (R66). Waiters age head first, and their LONG WAIT
notices join in that order (DESIGN CHOICE, log 38). -/
def State.schedulerStart (n : Superframe) (s : State) : State :=
  let demand := s.demandTable
  let s := s.onAts fun a => (List.finRange 12).foldl s.releaseIneligible a
  let s := s.onAts fun a => (List.finRange 12).foldl (Scheduler.countRelease demand) a
  let s := s.onAts (Scheduler.dropIdleWaiters demand)
  let s := s.ats.waitQueue.foldl (State.ageWaiter n) s
  let s := s.onAts (Scheduler.joinDemanders demand)
  let s := s.onAts (s.grantSlots n 12)
  let s := s.onAts (s.preempt n)
  s.buildMap n

/-! ## The retune queue (R77) -/

/-- A retune order is queued: in the place of the handset's order, or at the tail, the oldest dropped
from a full queue. -/
def Scheduler.queueRetune (o : RetuneOrder) (a : Scheduler) : Scheduler :=
  if a.retuneQueue.any fun x => x.id == o.id then
    { a with retuneQueue := a.retuneQueue.map fun x => if x.id == o.id then o else x }
  else if a.retuneQueue.length < 8 then { a with retuneQueue := a.retuneQueue ++ [o] }
  else
    { a with
      retuneQueue := a.retuneQueue.drop 1 ++ [o]
      retuneDrops := bump a.retuneDrops }

/-- A handset's retune order is removed, without a count (R105). -/
def Scheduler.forgetRetune (id : HandsetId) (a : Scheduler) : Scheduler :=
  { a with retuneQueue := a.retuneQueue.filter fun x => x.id != id }

/-! ## Closing and clearing (R78, R81 to R84) -/

/-- A program is closed: it leaves its slot or the queue (R78). -/
def Scheduler.close (p : Fin 32) (a : Scheduler) : Scheduler :=
  match (a.perProgram.get p).holderSlot with
  | some d => a.leaveSlot p d
  | none => if a.waitQueue.contains p then a.leaveQueue p else a

/-- The clearing of the schedule (R81). -/
def Scheduler.clear (a : Scheduler) : Scheduler :=
  { a with
    holders := .fill 12 none
    waitQueue := []
    retuneQueue := []
    builtMap := none
    perProgram := a.perProgram.map fun f =>
      { f.clearWait with
        holderSlot := none, grantSuperframe := none, heldCount := 0, releaseCountdown := none } }

/-- An AIR reset also sets the counters to 0 (R84). -/
def Scheduler.airReset (a : Scheduler) : Scheduler :=
  { a.clear with preemptions := 0, retuneDrops := 0, perProgram := .fill 32 .reset }

end Sys2Proof.Machine
end

