-- ==== Sys2Proof/Machine/Handsets.lean ====
section
/-! DEFINITION. The Handset Roster (spec 05): finding entries, the uplink slot table, the miss countdown,
battery updates, presence reports, language switching, the admission filter and the stray list. -/

namespace Sys2Proof.Machine

/-! ## Finding entries (R86) -/

/-- The entry that holds a handset ID. -/
def State.findEntry (s : State) (id : HandsetId) : Option (Fin 512) :=
  s.hrs.entries.find fun e => match e with
    | some x => x.id == id
    | none => false

/-- The lowest-numbered EMPTY entry. -/
def State.emptyEntry (s : State) : Option (Fin 512) := s.hrs.entries.find Option.isNone

/-- A handset enters the roster: its entry is written and its ID leaves the stray list (R86). -/
def State.enterRoster (s : State) (e : Fin 512) (x : RosterEntry) : State :=
  (s.setEntry e (some x)).onHrs fun h => { h with strays := h.strays.filter fun y => y.id != x.id }

/-- The entries DOCKED at a bay. -/
def State.dockedAt (s : State) (r : Fin 8) (b : Fin 24) : List (Fin 512) :=
  s.hrs.entries.places fun e => match e with
    | some x => x.state == .docked r b
    | none => false

/-- A program's listener count is changed (R98). -/
def State.onListeners (s : State) (p : Fin 32) (f : Nat → Nat) : State :=
  s.onHrs fun h => { h with listeners := h.listeners.modify p f }

/-! ## The uplink slot table (R99 to R101) -/

/-- Set the state of an uplink slot. -/
def State.setSlot (s : State) (k : Fin 16) (v : UplinkState) : State :=
  s.onHrs fun h => { h with slots := h.slots.set k v }

/-- The lowest-numbered free slot (R100). -/
def State.freeSlot (s : State) : Option (Fin 16) :=
  s.hrs.slots.find fun u => u == UplinkState.free

/-- News from slot Uk that HRS has not taken comes to nothing once Uk is unbound (R90). -/
def State.dropNews (s : State) (k : Fin 16) : State :=
  s.onHandovers fun h => { h with heard := h.heard.filter fun x => x.slot != k }

/-- Slot Uk becomes unbound: it is free, mic source k and the key recognizer of Uk are reset (R26, R101,
R116). -/
def State.unbindSlot (s : State) (k : Fin 16) : State :=
  (((s.setSlot k .free).dropNews k).onSource (micSource k) Source.unbind).onTrc fun c =>
    { c with recognizers := c.recognizers.set k .reset }

/-- A slot reserved by transaction `tx` becomes free; no neighbour is told (R100, R101). -/
def State.releaseReservation (s : State) (k : Fin 16) (tx : Fin 4) : State :=
  if s.hrs.slots.get k = .reserved tx then s.setSlot k .free else s

/-- What an entry leaves behind when it leaves ISSUED or MISSING: a receiver its place in the listener
count, a microphone its slot (R98, R101). -/
def State.endWork (s : State) : Assignment → State
  | .listener p _ => s.onListeners p (· - 1)
  | .speaker _ k => s.unbindSlot k

/-- What an entry that enters ISSUED from DOCKED, LOOSE or RECALLED takes up: a place in the listener
count, or its slot (R98, R100). -/
def State.beginWork (s : State) (e : Fin 512) : Assignment → State
  | .listener p _ => s.onListeners p (· + 1)
  | .speaker _ k => s.setSlot k (.bound e)

/-- An entry enters ISSUED as a new issue: its latch is cleared and its countdown loaded (R87, R89). -/
def RosterEntry.issueNew (work : Assignment) (timeout : Nat) (x : RosterEntry) : RosterEntry :=
  { x with state := .issued work timeout, lowBattery := false }

/-! ## The miss countdown (R89) -/

/-- The entry's miss countdown has run out and its expiry has not been taken (log 5). -/
def RosterEntry.missDue (x : RosterEntry) : Bool :=
  match x.state with
  | .issued _ c => c == 0
  | _ => false

/-- The expiry of an entry's miss countdown: it becomes MISSING with a MISSING notice, whose superframe number
is the last heard one (R89); SLI adds AP's for a handset never heard from (DEDUCED, log 15). -/
def State.expireMiss (s : State) (e : Fin 512) : State :=
  match s.entry e with
  | some x =>
    match x.state with
    | .issued work 0 =>
      (s.setEntry e (some { x with state := .missing work })).sendNoticeAt
        (x.lastHeard.getD s.ap.superframe) (.missing x.id x.kind work x.battery)
    | _ => s
  | none => s

/-- An expiry of the entry that still waits is taken, an event of its own, at whose end SLI starts the next frame
(R169, log 8). -/
def State.takeMissDue (s : State) (e : Fin 512) : State :=
  if (s.entry e).any RosterEntry.missDue then (s.expireMiss e).startTransmission else s

/-- The expiries still waiting from an earlier start are taken (log 5), in ascending entry number (DESIGN CHOICE,
log 38). -/
def State.takeMissesDue (s : State) : State :=
  (s.hrs.entries.places fun x => x.any RosterEntry.missDue).foldl State.takeMissDue s

/-- The miss countdown of an ISSUED entry falls by one. -/
def RosterEntry.countMiss (x : RosterEntry) : RosterEntry :=
  match x.state with
  | .issued work c => { x with state := .issued work (c - 1) }
  | _ => x

/-- HRS takes a superframe start: countdowns fall and stray ages rise (R89, R97). -/
def State.rosterStart (s : State) : State :=
  s.onHrs fun h =>
    { h with
      entries := h.entries.map (Option.map RosterEntry.countMiss)
      strays := h.strays.map fun y => { y with age := min 1000 (y.age + 1) } }

/-! ## Hearing from a handset (R90, R91, R93) -/

/-- The entry's state once it is heard from: the countdown is loaded again (R89). -/
def EntryState.heard (timeout : Nat) : EntryState → EntryState
  | .issued work _ => .issued work timeout
  | .missing work => .issued work timeout
  | other => other

/-- An entry that is ISSUED or MISSING. -/
def EntryState.isOut (st : EntryState) : Bool := st.work.isSome

/-- A battery update that sets the latch: ISSUED or MISSING, below 10, latch clear (R91). -/
def RosterEntry.batteryLow (battery : Nat) (x : RosterEntry) : Bool :=
  x.state.isOut && battery < 10 && !x.lowBattery

/-- An entry is heard from: last heard, battery, countdown, and FOUND before LOW BATTERY (R89 to R91, R93).
`quality` is given by a report. LOW BATTERY carries the state the event leaves, ISSUED for an entry found
MISSING (DESIGN CHOICE, log 39). -/
def State.hearEntry (s : State) (e : Fin 512) (x : RosterEntry) (n : Superframe) (battery : Nat)
    (quality : Option Nat) : State :=
  let new := { x with
    state := x.state.heard s.hrs.missTimeout
    battery := battery
    lowBattery := x.lowBattery || x.batteryLow battery
    lastHeard := some n
    lastQuality := quality <|> x.lastQuality }
  let s := s.setEntry e (some new)
  let s := match x.state with
    | .missing work => s.sendNoticeAt n (.found x.id x.kind work battery quality)
    | _ => s
  if x.batteryLow battery then
    s.sendNotice (.lowBattery x.id x.kind battery new.state.name new.state.work)
  else s

/-- SRC's news that the handset bound to a slot was heard reaches HRS (R90); an expiry of its entry still waiting is
taken first (log 5). -/
def State.takeHeard (s : State) (h : HeardNews) : State :=
  match s.hrs.slots.get h.slot with
  | .bound e =>
    let s := s.takeMissDue e
    match s.entry e with
    | some x => s.hearEntry e x h.superframe h.battery none
    | none => s
  | _ => s

/-! ## Language switching (R94) -/

/-- The reported program of an ISSUED receiver is compared with its roster program: a switch within the
tour to an OPEN program is followed, any other is undone by a retune order. -/
def State.switchLanguage (s : State) (e : Fin 512) (reported : Option (Fin 32)) : State :=
  match s.entry e with
  | some x =>
    match x.kind, x.state with
    | .receiver, .issued (.listener p t) c =>
      if reported = some p then s
      else
        let undo := s.onAts (Scheduler.queueRetune ⟨x.id, p⟩)
        match reported with
        | some q =>
          if (s.program q).isOpen && (s.program q).tour = t then
            ((s.setEntry e (some { x with state := .issued (.listener q t) c })).onListeners p
              (· - 1)).onListeners q (· + 1)
          else undo
        | none => undo
    | _, _ => s
  | none => s

/-! ## The admission filter and the stray list (R95, R97) -/

/-- A used filter entry matches an ID and kind (R95). -/
def FilterEntry.admits (id : HandsetId) (kind : HandsetKind) (f : FilterEntry) : Bool :=
  f.used && ((id ^^^ f.pattern) &&& ~~~f.mask) == 0 &&
    (match f.kind, kind with
      | .any, _ => true
      | .receiver, .receiver => true
      | .mic, .mic => true
      | _, _ => false)

/-- The lowest-numbered filter entry that admits the report; none while the validity flag is clear. -/
def Roster.admittedBy (id : HandsetId) (kind : HandsetKind) (h : Roster) : Option (Fin 8) :=
  if h.filterValid then h.filter.find (FilterEntry.admits id kind) else none

/-- The stray list after an admitted report, and whether a STRAY notice is sent (R97). -/
def updateStrays (id : HandsetId) (strays : List Stray) : List Stray × Bool :=
  match strays.find? fun y => y.id == id with
  | some y =>
    if y.age < 1000 then (strays, false)
    else ((strays.filter fun z => z.id != id) ++ [⟨id, 0⟩], true)
  | none =>
    if strays.length < 8 then (strays ++ [⟨id, 0⟩], true)
    else (strays.drop 1 ++ [⟨id, 0⟩], true)

/-- A report whose ID stands in no roster entry (R95, R97). -/
def State.takeStranger (s : State) (n : Superframe) (kind : HandsetKind) (r : PresenceReport) :
    State :=
  match s.hrs.admittedBy r.id kind with
  | none => s.onHrs fun h => { h with unadmittedReports := bump h.unadmittedReports }
  | some f =>
    let out := updateStrays r.id s.hrs.strays
    let s := s.onHrs fun h => { h with strayReports := bump h.strayReports, strays := out.1 }
    if out.2 then s.sendNoticeAt n (.stray r.id kind r.program r.battery r.quality f) else s

/-! ## Presence reports (R92, R93) -/

/-- A report from a handset of the roster (R93). -/
def State.takeRosterReport (s : State) (n : Superframe) (e : Fin 512) (x : RosterEntry)
    (kind : HandsetKind) (r : PresenceReport) : State :=
  if kind ≠ x.kind then s.onHrs fun h => { h with kindMismatches := bump h.kindMismatches }
  else match x.state with
    | .docked .. => s.onHrs fun h => { h with dockedReports := bump h.dockedReports }
    | _ => (s.hearEntry e x n r.battery (some r.quality)).switchLanguage e r.program

/-- A GOOD report is sorted (R92); an expiry of its entry still waiting is taken first (log 5). -/
def State.takeReport (s : State) (n : Superframe) (r : PresenceReport) : State :=
  match r.kind with
  | none => s.onHrs fun h => { h with reportErrors := bump h.reportErrors }
  | some kind =>
    if r.id = 0 then s.onHrs fun h => { h with reportErrors := bump h.reportErrors }
    else match s.findEntry r.id with
      | none => s.takeStranger n kind r
      | some e =>
        let s := s.takeMissDue e
        match s.entry e with
        | some x => s.takeRosterReport n e x kind r
        | none => s

/-! ## Recall at a close (R111) -/

/-- The entries whose program is `p`, in ISSUED or MISSING. -/
def State.listenersOf (s : State) (p : Fin 32) : List (Fin 512) :=
  s.hrs.entries.places fun e => match e with
    | some x => x.state.work.bind Assignment.program == some p
    | none => false

/-- The closed program's receivers become RECALLED and its listener count 0. -/
def State.recallReceivers (s : State) (p : Fin 32) : State :=
  s.onHrs fun h =>
    { h with
      entries := h.entries.map (Option.map fun x =>
        if x.state.work.bind Assignment.program == some p then { x with state := .recalled } else x)
      listeners := h.listeners.set p 0 }

end Sys2Proof.Machine
end

