-- ==== Sys2Proof/Machine/Mixer.lean ====
section
/-! DEFINITION. The Program Mixer (spec 03): the mix, the limiter, the test pattern, FILL blocks, request
sets and the tap. -/

namespace Sys2Proof.Machine

/-! ## Source samples (R47) -/

/-- A mic block of the superframe before, halved. -/
def halveBlock (b : Block) : Block := b.map fun x => scale x 512

/-- The samples of a source for target superframe `t`. -/
def State.sourceSamples (s : State) (t : Superframe) (k : Fin 24) : Block :=
  match (s.source k).blockTagged (t - 2) with
  | some b => b.samples
  | none =>
    if isStream k then silence
    else match (s.source k).blockTagged (t - 3) with
      | some b => halveBlock b.samples
      | none => silence

/-! ## Weights (R48) -/

/-- The duck class: the highest class among the entries whose source is speaking. -/
def State.duckClass (s : State) : List MixEntry → Option Nat
  | [] => none
  | e :: rest =>
    if (s.source e.source).speaking then some (max e.duckClass ((s.duckClass rest).getD 0))
    else s.duckClass rest

/-- The weight of an entry under duck class `cmax` and duck gain `duck`. -/
def entryWeight (cmax : Option Nat) (duck : Nat) (e : MixEntry) : Nat :=
  match cmax with
  | none => e.gain
  | some c => if c ≤ e.duckClass then e.gain else (e.gain * duck + 512) / 1024

/-! ## The mix (R49 to R51) -/

/-- Add two blocks sample by sample. -/
def addBlocks (a b : Block) : Block := List.zipWith (· + ·) a b

/-- The sum y of the weighted contributions, without any clamp. -/
def State.mixSum (s : State) (t : Superframe) (cmax : Option Nat) (duck : Nat) :
    List MixEntry → Block
  | [] => silence
  | e :: rest =>
    addBlocks ((s.sourceSamples t e.source).map fun x => scale x (entryWeight cmax duck e))
      (s.mixSum t cmax duck rest)

/-- The sum of a program's mix for target `t`, under its own duck class and duck gain. -/
def State.programSum (s : State) (t : Superframe) (r : Program) : Block :=
  s.mixSum t (s.duckClass r.mixList) r.duckGain r.mixList

/-- The output samples: the sum scaled by the limiter gain and clamped. -/
def limitBlock (lg : Nat) (y : Block) : Block := gainBlock lg y

/-- The limiter gain after a block with or without a program clip (R50). -/
def nextLimiter (clipped : Bool) (lg : Nat) : Nat :=
  if clipped then max 256 (lg - 64) else min 1024 (lg + 16)

/-- A program record after a mix with sum `y` (R50, R51). -/
def Program.afterMix (y : Block) (r : Program) : Program :=
  let clipped := clipCount r.limiterGain y != 0
  { r with
    limiterGain := nextLimiter clipped r.limiterGain
    clippedBlocks := if clipped then bump r.clippedBlocks else r.clippedBlocks
    level := blockLevel (limitBlock r.limiterGain y)
    blocksMixed := bump r.blocksMixed }

/-! ## The test pattern (R52) -/

/-- Sample `k` of the pattern from phase `p`. -/
def patternSample (amplitude half p : Nat) : Int :=
  if p / half % 2 = 0 then (amplitude : Int) else -(amplitude : Int)

/-- A pattern block of `k` samples from phase `p`, and the phase left after it. -/
def patternBlock (amplitude half : Nat) : Nat → Nat → Block × Nat
  | 0, p => ([], p)
  | k + 1, p =>
    let rest := patternBlock amplitude half k ((p + 1) % (2 * half))
    (patternSample amplitude half p :: rest.1, rest.2)

/-- A program's test pattern block and the phase left. -/
def Program.pattern (r : Program) : Block × Nat :=
  patternBlock r.testAmplitude r.testHalfPeriod 160 r.patternPhase

/-- A program record after a test pattern (R52). -/
def Program.afterPattern (r : Program) : Program :=
  { r with
    patternPhase := r.pattern.2
    level := blockLevel r.pattern.1
    blocksMixed := bump r.blocksMixed }

/-! ## The tap (R55 to R59) -/

/-- The TAP LEVELS notice of a program, each field as it stands (R57). -/
def State.tapNotice (s : State) (p : Fin 32) : Notice :=
  let r := s.program p
  .tapLevels p r.level r.limiterGain (s.hrs.listeners.get p) (s.ats.perProgram.get p).holderSlot
    (r.mixList.map fun e => ⟨e.source, (s.source e.source).lastLevel, (s.source e.source).detector⟩)

/-- A block of program `p` for `t` is complete; a tap on the program is served (R56, R58). -/
def State.serveTap (s : State) (p : Fin 32) (t : Superframe) (samples : Block) : State :=
  match s.tap with
  | none => s
  | some tap =>
    if tap.program ≠ p then s
    else match tap.mode with
      | .levelsOnce => (s.sendNoticeAt t (s.tapNotice p)).setTap none
      | .levelsEvery period =>
        if t.toNat % period = 0 then s.sendNoticeAt t (s.tapNotice p) else s
      | .audio => s.queueTapout ⟨p, t, (s.program p).level, samples⟩

/-! ## Request sets (R45, R46, R53) -/

/-- A block made for a slot is on its way to AP; one made without a slot is counted (R46). -/
def State.handBlock (s : State) (p : Fin 32) (slot : Option (Fin 12)) (b : DownlinkBlock) : State :=
  match slot with
  | some d => s.onHandovers fun h => { h with placements := h.placements ++ [.downlink d b] }
  | none => s.onProgram p fun r => { r with unsentBlocks := bump r.unsentBlocks }

/-- MIX makes one block of program `p` for target `t` (R46). -/
def State.makeBlock (s : State) (t : Superframe) (p : Fin 32) (slot : Option (Fin 12)) : State :=
  let r := s.program p
  if !r.isOpen then
    match slot with
    | some d => s.handBlock p (some d) ⟨t, .fillFromMixer, silence⟩
    | none => s
  else if r.test then
    ((s.onProgram p Program.afterPattern).handBlock p slot ⟨t, .program, r.pattern.1⟩).serveTap p t
      r.pattern.1
  else
    let y := s.programSum t r
    let o := limitBlock r.limiterGain y
    ((s.onProgram p (Program.afterMix y)).handBlock p slot ⟨t, .program, o⟩).serveTap p t o

/-- The tapped program when an AUDIO tap asks for a tap-only mix beside a set (R45). -/
def State.tapOnly (s : State) (m : MixRequestSet) : Option (Fin 32) :=
  match s.tap with
  | some ⟨p, .audio⟩ => if m.programs.any fun x => x.1 == p then none else some p
  | _ => none

/-- MIX takes a request set (R45). -/
def State.takeMixSet (s : State) (m : MixRequestSet) : State :=
  let extra := s.tapOnly m
  let s := m.programs.foldl (fun s x => s.makeBlock m.target x.1 (some x.2)) s
  match extra with
  | some p => s.makeBlock m.target p none
  | none => s

/-! ## Opening, closing and clearing (R43, R59, R62) -/

/-- A program record when its program is opened (R43, R109). -/
def Program.afterOpen (r : Program) : Program :=
  { r with isOpen := true, limiterGain := 1024, patternPhase := 0, level := 0 }

/-- The tap ends if it is on the program (R43, R59). -/
def State.endTapOn (s : State) (p : Fin 32) : State :=
  match s.tap with
  | some tap => if tap.program = p then s.setTap none else s
  | none => s

/-- A program record after an AIR reset (R62). -/
def Program.airReset (r : Program) : Program :=
  { r with
    limiterGain := 1024, patternPhase := 0, level := 0, blocksMixed := 0, clippedBlocks := 0
    unsentBlocks := 0 }

/-! ## The command MIX_REQUEST_SET -/

/-- MIX_REQUEST_SET: MIX takes the oldest request set waiting (R45, log 3). -/
def execMixRequestSet (s : State) : Host.Outcome State Fault Refusal :=
  complete s fun s =>
    match s.handovers.mixSets with
    | [] => s
    | m :: rest => (s.onHandovers fun h => { h with mixSets := rest }).takeMixSet m

end Sys2Proof.Machine
end

