-- ==== Sys2Proof/Machine/RackQueue.lean ====
section
/-! DEFINITION. The exchange queue of the Rack Link Controller (spec 07, R126 and R130 to R133): starting an
exchange, joining, refusing, removing. -/

namespace Sys2Proof.Machine

/-- The queue's limit. -/
def queueLimit : Nat := 16

/-! ## Starting an exchange and filling freed places (R126, R132) -/

/-- The lowest-numbered rack with a pending CHARGE. -/
def RackController.firstPending (c : RackController) : Option (Fin 8) :=
  c.pendingCharge.find Option.isSome

/-- While places are free, pending CHARGEs join at the tail, lowest rack first (R132). -/
def RackController.joinPending : Nat → RackController → RackController
  | 0, c => c
  | k + 1, c =>
    if c.queue.length < queueLimit then
      match c.firstPending with
      | none => c
      | some r =>
        match c.pendingCharge.get r with
        | none => c
        | some levels =>
          joinPending k { c with
            queue := c.queue ++ [⟨r, .charge levels⟩]
            pendingCharge := c.pendingCharge.set r none }
    else c

/-- When no exchange is in flight, the head of the queue becomes the exchange in flight (R126). -/
def RackController.startExchange (c : RackController) : RackController :=
  match c.inFlight, c.queue with
  | none, x :: rest => joinPending 8 { c with inFlight := some ⟨x, none, false⟩, queue := rest }
  | _, _ => c

/-- An entry joins the queue at the tail, and starts at once on an idle line (R126, log 9). -/
def RackController.append (x : Exchange) (c : RackController) : RackController :=
  ({ c with queue := c.queue ++ [x] } : RackController).startExchange

/-- Waiting entries of a rack that `drop` names leave the queue, its pending CHARGE is discarded, and
pending CHARGEs of other racks take the freed places (R124, R129, R132). -/
def RackController.removeEntries (r : Fin 8) (drop : RackRequest → Bool) (c : RackController) :
    RackController :=
  joinPending 8 { c with
    queue := c.queue.filter fun x => !(x.rack == r && drop x.request)
    pendingCharge := c.pendingCharge.set r none }

/-- The exchange in flight with a rack taken out of service runs to its end, and is marked (R124). -/
def RackController.markInFlight (r : Fin 8) (c : RackController) : RackController :=
  { c with
    inFlight := c.inFlight.map fun f =>
      { f with leftService := f.leftService || f.exchange.rack == r } }

/-- A request is a POLL. -/
def RackRequest.isPoll : RackRequest → Bool
  | .poll => true
  | .charge _ => false
  | .image .. => false
  | .release .. => false

/-- A request is a CHARGE. -/
def RackRequest.isCharge : RackRequest → Bool
  | .charge _ => true
  | .poll => false
  | .image .. => false
  | .release .. => false

/-! ## Requests (R130 to R133) -/

/-- CHARGE, IMAGE and RELEASE are taken for a present rack that is ONLINE (R130). -/
def State.rackServes (s : State) (r : Fin 8) : Bool :=
  (s.rack r).present && (s.rack r).link = .online

/-- A request is refused and counted (R130, R133). -/
def State.refuseRequest (s : State) : State :=
  s.onRlc fun c => { c with queueRefusals := bump c.queueRefusals }

/-- One POLL asked at the poll timer (R131). -/
def RackController.askPoll (c : RackController) (r : Fin 8) : RackController :=
  if !(c.racks.get r).present then c
  else if c.queue.any fun x => x.rack == r && x.request.isPoll then c
  else if c.queue.length < queueLimit then c.append ⟨r, .poll⟩
  else { c with skippedPolls := bump c.skippedPolls }

/-- A CHARGE request joins: in the place of a waiting one, at the tail, or held pending (R132). -/
def RackController.joinCharge (r : Fin 8) (levels : Table 24 ChargeLevel) (c : RackController) :
    RackController :=
  if c.queue.any fun x => x.rack == r && x.request.isCharge then
    { c with
      queue := c.queue.map fun x =>
        if x.rack == r && x.request.isCharge then ⟨r, .charge levels⟩ else x }
  else if c.queue.length < queueLimit then c.append ⟨r, .charge levels⟩
  else { c with pendingCharge := c.pendingCharge.set r (some levels) }

/-- CHP asks for a CHARGE; the Bool says that it was not refused (R130, R132). -/
def State.requestCharge (s : State) (r : Fin 8) (levels : Table 24 ChargeLevel) : State × Bool :=
  if s.rackServes r then (s.onRlc (RackController.joinCharge r levels), true)
  else (s.refuseRequest, false)

/-- ISE asks for an IMAGE or RELEASE; the Bool says that it joined (R130, R133). -/
def State.requestIssue (s : State) (r : Fin 8) (request : RackRequest) : State × Bool :=
  if s.rackServes r && s.rlc.queue.length < queueLimit then
    (s.onRlc (RackController.append ⟨r, request⟩), true)
  else (s.refuseRequest, false)

/-! ## The commands POLL_TIMER_EXPIRY and REQUEST_SENT -/

/-- POLL_TIMER_EXPIRY: the poll engine asks one POLL for every present rack, ascending, and the timer runs
on (R131). Nothing happens when the timer does not run (log 31). -/
def execPollTimerExpiry (s : State) : Host.Outcome State Fault Refusal :=
  complete s fun s =>
    match s.rlc.pollTimer with
    | none => s
    | some due =>
      (s.reachTime due).onRlc fun c =>
        { (List.finRange 8).foldl RackController.askPoll c with
          pollTimer := some (due + 100 * Config.millisecond) }

/-- REQUEST_SENT: the last byte of the request in flight has been sent, and its 20 ms reply timer starts
(R126). Nothing happens when no request is being sent (log 31). -/
def execRequestSent (time : Time) (s : State) : Host.Outcome State Fault Refusal :=
  complete s fun s =>
    let s := s.reachTime time
    match s.rlc.inFlight with
    | some ⟨x, none, left⟩ =>
      s.onRlc fun c =>
        { c with inFlight := some ⟨x, some (s.now + 20 * Config.millisecond), left⟩ }
    | _ => s

end Sys2Proof.Machine
end

