-- ==== Sys2Proof/Machine/Charging.lean ====
section
/-! DEFINITION. The Charge Planner (spec 09): desired levels, the temperature state, the reduction to the
effective budget, asking for a CHARGE, and the ends of CHARGE exchanges. -/

namespace Sys2Proof.Machine

/-! ## Levels -/

/-- The current a level stands for, in mA. -/
def ChargeLevel.current : ChargeLevel → Nat
  | .off => 0
  | .trickle => 50
  | .normal => 250
  | .fast => 500

/-- One level lower. -/
def ChargeLevel.lower : ChargeLevel → ChargeLevel
  | .off => .off
  | .trickle => .off
  | .normal => .trickle
  | .fast => .normal

/-- The total of a set of levels. -/
def totalCurrent (levels : Table 24 ChargeLevel) : Nat :=
  (levels.rows.map ChargeLevel.current).sum

/-- Every bay at OFF. -/
def allOff : Table 24 ChargeLevel := .fill 24 .off

/-! ## Desired levels (R157) -/

/-- The battery of the handset in a bay; 0 when the bay is not OCCUPIED. -/
def Bay.battery (b : Bay) : Nat :=
  match b.occupancy with
  | .occupied _ battery => battery
  | _ => 0

/-- The desired level of a bay under an issue threshold; the first condition that holds gives it. -/
def desiredLevel (threshold : Nat) (b : Bay) : ChargeLevel :=
  match b.occupancy with
  | .unknown => .off
  | .empty => .off
  | .occupied _ battery =>
    if b.charger = .fault then .off
    else if b.reservation.isSome then .off
    else if battery = 100 then .off
    else if battery < threshold then .fast
    else if 95 ≤ battery then .trickle
    else .normal

/-! ## The temperature state (R158) -/

/-- The temperature state after temperature `t` under the thresholds. -/
def nextTemperature (warm hot t : Int) : TemperatureState → TemperatureState
  | .normal => if hot ≤ t then .hot else if warm ≤ t then .warm else .normal
  | .warm => if hot ≤ t then .hot else if t ≤ warm - 3 then .normal else .warm
  | .hot => if t < warm then .normal else .hot

/-- A rack's temperature state is moved; RACK HOT is raised on entry to HOT and cleared on leaving it. -/
def State.moveTemperature (s : State) (r : Fin 8) (new : TemperatureState) : State :=
  let old := (s.chp.get r).temperature
  let s := s.onChp r fun p => { p with temperature := new }
  if new = .hot && old ≠ .hot then s.raiseRackHot r
  else if old = .hot && new ≠ .hot then s.clearRackHot r
  else s

/-- A temperature handed to CHP moves the rack's temperature state (R158). -/
def State.takeTemperature (s : State) (r : Fin 8) (t : Int) : State :=
  s.moveTemperature r
    (nextTemperature (s.rack r).warmThreshold (s.rack r).hotThreshold t (s.chp.get r).temperature)

/-! ## The plan (R159) -/

/-- The effective budget E. -/
def effectiveBudget (budget : Nat) : TemperatureState → Nat
  | .normal => budget
  | .warm => budget / 2
  | .hot => 0

/-- Bay `e`, later than the best bay so far, is lowered before it: a higher level, or the same level and a
battery at least as high. -/
def lowersBefore (bays : Table 24 Bay) (levels : Table 24 ChargeLevel) (e b : Fin 24) : Bool :=
  (levels.get b).current < (levels.get e).current ||
    ((levels.get e) = (levels.get b) && (bays.get b).battery ≤ (bays.get e).battery)

/-- The bay to lower: above OFF, at the highest level present, then the highest battery, then the highest
bay number. -/
def bayToLower (bays : Table 24 Bay) (levels : Table 24 ChargeLevel) : Option (Fin 24) :=
  (List.finRange 24).foldl (fun best e =>
    if levels.get e = .off then best
    else match best with
      | none => some e
      | some b => if lowersBefore bays levels e b then some e else best) none

/-- Lower one bay by one level at a time until the total fits `budget`; the Bool says that one was
lowered. Seventy-two lowerings bring every bay to OFF. -/
def reducePlan (bays : Table 24 Bay) (budget : Nat) :
    Nat → Table 24 ChargeLevel → Table 24 ChargeLevel × Bool
  | 0, levels => (levels, false)
  | k + 1, levels =>
    if totalCurrent levels ≤ budget then (levels, false)
    else match bayToLower bays levels with
      | none => (levels, false)
      | some b => ((reducePlan bays budget k (levels.modify b ChargeLevel.lower)).1, true)

/-- The effective budget of a rack as the rack table and the temperature state stand. -/
def State.rackBudget (s : State) (r : Fin 8) : Nat :=
  effectiveBudget (s.rack r).budget (s.chp.get r).temperature

/-- The plan of a rack computed from scratch, and whether a bay was lowered. -/
def State.computePlan (s : State) (r : Fin 8) : Table 24 ChargeLevel × Bool :=
  let bays := s.rlc.bays.get r
  reducePlan bays (s.rackBudget r) 72 (bays.map (desiredLevel (s.rack r).issueThreshold))

/-! ## Asking for a CHARGE (R162) -/

/-- The plan differs from the acknowledged plan (an unknown one differs from every plan), or from a last
asked that is not none. -/
def ChargePlanner.wantsCharge (p : ChargePlanner) : Bool :=
  p.acknowledged != some p.plan || (p.lastAsked.isSome && p.lastAsked != some p.plan)

/-- CHP judges whether to ask for a CHARGE (R162). -/
def State.judgeCharge (s : State) (r : Fin 8) : State :=
  let p := s.chp.get r
  if (s.rack r).link = .online && p.wantsCharge then
    match s.requestCharge r p.plan with
    | (s, true) =>
      s.onChp r fun p => { p with lastAsked := some p.plan, chargesAsked := bump p.chargesAsked }
    | (s, false) => s.onChp r fun p => { p with lastAsked := none }
  else s

/-- CHP computes the plan of a rack and judges whether to ask for a CHARGE (R159, R160). -/
def State.planRack (s : State) (r : Fin 8) : State :=
  let out := s.computePlan r
  (s.onChp r fun p =>
    { p with plan := out.1, shortPlans := if out.2 then bump p.shortPlans else p.shortPlans })
    |>.judgeCharge r

/-! ## Events (R161, R163, R164) -/

/-- The levels of a CHARGE ACK: the acknowledged plan, or unknown and counted (R163). -/
def State.storeAck (s : State) (r : Fin 8) (payload : List Byte) : State :=
  match ackLevelsOf payload with
  | some levels => s.onChp r fun p => { p with acknowledged := some levels }
  | none => s.onChp r fun p => { p with acknowledged := none, badAcks := bump p.badAcks }

/-- The loss of a rack reaches CHP (R164). -/
def State.chargeLoss (s : State) (r : Fin 8) : State :=
  (s.onChp r fun p => { p with acknowledged := none, lastAsked := none }).planRack r

/-- A change of the present field also makes the temperature state NORMAL (R164, log 13). -/
def State.chargePresence (s : State) (r : Fin 8) : State :=
  (s.moveTemperature r .normal).clearRackHot r |>.chargeLoss r

/-- SET RACK changed a rack's configuration from `old` while its present field stayed (R161). -/
def State.chargeSettings (s : State) (r : Fin 8) (old : Rack) : State :=
  let new := s.rack r
  let before := (s.chp.get r).temperature
  let s :=
    if old.warmThreshold ≠ new.warmThreshold || old.hotThreshold ≠ new.hotThreshold then
      match new.lastTemperature with
      | some t => s.takeTemperature r t
      | none => s
    else s
  if old.budget ≠ new.budget || (s.chp.get r).temperature ≠ before then s.planRack r else s

end Sys2Proof.Machine
end

