-- ==== Sys2Proof/Machine/Issuing.lean ====
section
/-! DEFINITION. The Issue Engine (spec 08): the transaction table, SELECT, the end of a transaction, take
requests, dockings and removals, the ends of IMAGE and RELEASE exchanges, and the timers. -/

namespace Sys2Proof.Machine

/-! ## The transaction table (R139) -/

/-- The place of the transaction that runs on a rack. -/
def State.transactionOn (s : State) (r : Fin 8) : Option (Fin 4) :=
  s.ise.transactions.find fun t => match t with
    | some x => x.rack == r
    | none => false

/-- The place of the transaction whose subject is a handset. -/
def State.transactionOf (s : State) (id : HandsetId) : Option (Fin 4) :=
  s.ise.transactions.find fun t => match t with
    | some x => x.id == id
    | none => false

/-- The transaction at a place. -/
def State.transaction (s : State) (i : Fin 4) : Option Transaction := s.ise.transactions.get i

/-- Set a place of the transaction table. -/
def State.setTransaction (s : State) (i : Fin 4) (t : Option Transaction) : State :=
  s.onIse fun e => { e with transactions := e.transactions.set i t }

/-- Set a rack's exchange mark. -/
def State.setMark (s : State) (r : Fin 8) (b : Bool) : State :=
  s.onIse fun e => { e with marks := e.marks.set r b }

/-- Set a rack's take latch. -/
def State.setLatch (s : State) (r : Fin 8) (b : Bool) : State :=
  s.onIse fun e => { e with latches := e.latches.set r b }

/-- Set a rack's take request. -/
def State.setTakeRequest (s : State) (r : Fin 8) (v : Option Time) : State :=
  s.onIse fun e => { e with takeRequests := e.takeRequests.set r v }

/-- The place a new transaction on a rack would take; none when a transaction runs on the rack, its
exchange mark is set, or four transactions run (R143, R152: BUSY). -/
def State.placeFor (s : State) (r : Fin 8) : Option (Fin 4) :=
  if (s.transactionOn r).isSome || s.ise.marks.get r then none
  else s.ise.transactions.find Option.isNone

/-! ## Requests of a transaction (R144, R146, R147) -/

/-- ISE asks for the IMAGE of transaction `i`; a refused request sets the retry (R144). -/
def State.askImage (i : Fin 4) (s : State) : State :=
  match s.transaction i with
  | none => s
  | some t =>
    match s.requestIssue t.rack (.image t.bay t.image) with
    | (s, true) => (s.setTransaction i (some { t with retry := none })).setMark t.rack true
    | (s, false) => s.setTransaction i (some { t with retry := some .image })

/-- ISE asks for the RELEASE of transaction `i`; a refused request counts as asked (R147). -/
def State.askRelease (i : Fin 4) (s : State) : State :=
  match s.transaction i with
  | none => s
  | some t =>
    match s.requestIssue t.rack (.release t.bay t.imageTag) with
    | (s, true) =>
      (s.setTransaction i (some { t with retry := none, releaseAsked := true })).setMark t.rack true
    | (s, false) => s.setTransaction i (some { t with retry := some .release, releaseAsked := true })

/-- The acknowledged plan shows the bay at OFF. -/
def State.ackShowsOff (s : State) (r : Fin 8) (b : Fin 24) : Bool :=
  match (s.chp.get r).acknowledged with
  | some levels => levels.get b = .off
  | none => false

/-- One of the reads of R147: in RELEASING, with no RELEASE asked and the exchange mark clear, a bay at
OFF in the acknowledged plan has its RELEASE asked. -/
def State.readAckFor (i : Fin 4) (s : State) : State :=
  match s.transaction i with
  | none => s
  | some t =>
    if t.state = .releasing && !t.releaseAsked && !s.ise.marks.get t.rack &&
        s.ackShowsOff t.rack t.bay
    then s.askRelease i else s

/-! ## SELECT and the handset image (R144, R145) -/

/-- What an issue is for: a program for a receiver, a tour for a microphone. -/
inductive IssueTarget where
  | program (p : Fin 32)
  | tour (t : Fin 16)
deriving DecidableEq, Repr

/-- The kind of handset an issue is for. -/
def IssueTarget.kind : IssueTarget → HandsetKind
  | .program _ => .receiver
  | .tour _ => .mic

/-- A bay is a candidate for a handset of a kind (R144). -/
def State.isCandidate (s : State) (r : Fin 8) (kind : HandsetKind) (b : Fin 24) : Bool :=
  let bay := s.bay r b
  match bay.occupancy with
  | .occupied id battery =>
    (match (s.findEntry id).bind s.entry with
      | some x => x.state == .docked r b && x.kind == kind
      | none => false) &&
    !bay.foreign && bay.charger != .fault && (s.rack r).issueThreshold ≤ battery &&
    bay.reservation.isNone
  | _ => false

/-- The candidate with the highest battery, ties going to the lowest bay number (R144). -/
def State.bestCandidate (s : State) (r : Fin 8) (kind : HandsetKind) : Option (Fin 24) :=
  (List.finRange 24).foldl (fun best b =>
    if s.isCandidate r kind b then
      match best with
      | none => some b
      | some c => if (s.bay r c).battery < (s.bay r b).battery then some b else best
    else best) none

/-- The bay SELECT chooses: the named bay if it is a candidate, else the best candidate. -/
def State.chooseBay (s : State) (r : Fin 8) (kind : HandsetKind) (named : Option (Fin 24)) :
    Option (Fin 24) :=
  match named with
  | some b => if s.isCandidate r kind b then some b else none
  | none => s.bestCandidate r kind

/-- The tour language list: the program and up to seven other OPEN programs of its tour, the
lowest-numbered, in ascending index (R145). -/
def State.languageList (s : State) (p : Fin 32) : List (Fin 32 × Label) :=
  let others := ((List.finRange 32).filter fun q =>
    q != p && (s.program q).isOpen && (s.program q).tour == (s.program p).tour).take 7
  ((List.finRange 32).filter fun q => q == p || others.contains q).map fun q =>
    (q, (s.program q).label)

/-- The handset image of an assignment (R145). -/
def State.composeImage (s : State) (id : HandsetId) (tag : Byte) (work : Assignment) :
    HandsetImage where
  id := id
  kind := work.kind
  tag := tag
  tour := work.tour
  program := work.program
  slot := work.slot
  volumeCap := match work with
    | .listener .. => 85
    | .speaker .. => 100
  languages := match work with
    | .listener p _ => s.languageList p
    | .speaker .. => []

/-- Why SELECT fails. -/
inductive SelectFailure where
  | noHandset | noSlot
deriving DecidableEq, Repr

/-- The assignment a transaction prepares; none when a microphone finds no free slot. -/
def State.workFor (s : State) : IssueTarget → Option Assignment
  | .program p => some (.listener p (s.program p).tour)
  | .tour t => s.freeSlot.map fun k => .speaker t k

/-- A microphone's slot becomes reserved by transaction `i` (R100). -/
def State.reserveFor (s : State) (i : Fin 4) : Assignment → State
  | .listener .. => s
  | .speaker _ k => s.setSlot k (.reserved i)

/-- The transaction SELECT creates at place `i` for the handset in bay `b` (R139, R144). -/
def State.createTransaction (s : State) (i : Fin 4) (r : Fin 8) (b : Fin 24) (id : HandsetId)
    (work : Assignment) (origin : Origin) : State :=
  let tag := s.ise.sequenceNumber + 1
  let t : Transaction :=
    { state := .imaging, origin := origin, rack := r, bay := b, id := id, work := work
      imageTag := tag, image := s.composeImage id tag work, retry := none
      timer := some (s.now + 1000 * Config.millisecond), releaseAsked := false }
  let s := (s.onIse fun e => { e with sequenceNumber := tag }).setTransaction i (some t)
  let s := (s.reserveFor i work).onBay r b fun y => { y with reservation := some i }
  s.inEitherOrder (State.askImage i) (fun s => s.planRack r)

/-- The handset ID an OCCUPIED bay holds. -/
def Bay.handset (b : Bay) : HandsetId :=
  match b.occupancy with
  | .occupied id _ => id
  | _ => 0

/-- SELECT for place `i` on a rack (R144). -/
def State.select (s : State) (i : Fin 4) (r : Fin 8) (target : IssueTarget)
    (named : Option (Fin 24)) (origin : Origin) : Except SelectFailure State :=
  match s.chooseBay r target.kind named with
  | none => .error .noHandset
  | some b =>
    match s.workFor target with
    | none => .error .noSlot
    | some work => .ok (s.createTransaction i r b (s.bay r b).handset work origin)

/-! ## Take requests (R151, R152) -/

/-- A take request falls back to its rack's default (R152); the request is gone. -/
def State.takeDefault (s : State) (r : Fin 8) : State :=
  let s := s.setTakeRequest r none
  let drop (reason : TakeDropReason) : State := s.sendNotice (.takeDropped r none reason)
  match (s.rack r).defaultProgram with
  | none => drop .noDefault
  | some p =>
    if !(s.program p).isOpen then drop .noDefault
    else match s.placeFor r with
      | none => drop .busy
      | some i =>
        let target := match (s.rack r).defaultKind with
          | .receiver => IssueTarget.program p
          | .mic => IssueTarget.tour (s.program p).tour
        match s.select i r target none .default with
        | .error .noHandset => drop .noHandset
        | .error .noSlot => drop .noSlot
        | .ok s' =>
          match s'.transaction i with
          | some t => s'.sendNotice (.takeDefaulted r i t.work t.bay t.id)
          | none => s'

/-- A take request is created and served by the link state (R151). -/
def State.createTakeRequest (s : State) (r : Fin 8) : State :=
  match s.sli.link with
  | .linked =>
    (s.sendTakeRequest r (s.rack r).defaultProgram (s.rack r).defaultKind).setTakeRequest r
      (some (s.now + 2000 * Config.millisecond))
  | .standalone => s.takeDefault r

/-- RLC hands ISE `p` new presses of a rack's take button (R151). With a take request pending a press is
ignored, a transaction on the rack or not (DESIGN CHOICE, log 36). -/
def State.takePresses (s : State) (r : Fin 8) (p : Nat) : State :=
  if s.sli.mode = .night then s.sendNotice (.takeDropped r (some p) .night)
  else if (s.ise.takeRequests.get r).isSome then s
  else if (s.transactionOn r).isSome then s.setLatch r true
  else s.createTakeRequest r

/-! ## The end of a transaction (R149) -/

/-- A bay's reservation by transaction `i` is cleared. -/
def State.clearReservation (s : State) (r : Fin 8) (b : Fin 24) (i : Fin 4) : State :=
  s.onBay r b fun y => if y.reservation = some i then { y with reservation := none } else y

/-- A microphone's slot reservation is released when the transaction does not end TAKEN. -/
def State.endReservation (s : State) (i : Fin 4) (outcome : IssueOutcome) : Assignment → State
  | .listener .. => s
  | .speaker _ k => if outcome = .taken then s else s.releaseReservation k i

/-- A latched press is acted on at the end of the rack's transaction (R149, R151). -/
def State.actOnLatch (s : State) (r : Fin 8) : State :=
  if s.ise.latches.get r then (s.setLatch r false).takePresses r 1 else s

/-- Transaction `i` ends (R149); `result` is the entry's new state with its assignment when TAKEN. -/
def State.endTransaction (s : State) (i : Fin 4) (outcome : IssueOutcome)
    (result : Option (EntryStateName × Option Assignment)) : State :=
  match s.transaction i with
  | none => s
  | some t =>
    let s := (s.clearReservation t.rack t.bay i).planRack t.rack
    let s := (s.endReservation i outcome t.work).setTransaction i none
    let s := s.sendNotice (.issueResult outcome t.origin i t.imageTag t.id t.work.kind t.rack t.bay
      (result.map Prod.fst) (result.bind Prod.snd))
    s.actOnLatch t.rack

/-! ## Dockings (R140, R141) -/

/-- Entry `e`, DOCKED at a bay, leaves it for LOOSE. -/
def State.makeLoose (s : State) (e : Fin 512) (x : RosterEntry) : State :=
  s.setEntry e (some { x with state := .loose })

/-- Entry `e`, DOCKED at an unreserved bay, is removed from it (R142). -/
def State.looseUnissued (s : State) (r : Fin 8) (b : Fin 24) (e : Fin 512) : State :=
  match s.entry e with
  | none => s
  | some x =>
    (s.makeLoose e x).sendNotice (.unissuedRemoval x.id x.kind e r b x.battery)

/-- Any entry other than `id`'s that is DOCKED at the bay is removed from it (R140, R141). -/
def State.clearOthers (s : State) (r : Fin 8) (b : Fin 24) (id : HandsetId) : State :=
  ((s.dockedAt r b).filter fun e => (s.entry e).any fun x => x.id != id).foldl
    (fun s e => s.looseUnissued r b e) s

/-- A handset that stands in no entry docks: it is enrolled, or the bay becomes FOREIGN (R140). -/
def State.dockUnknown (s : State) (r : Fin 8) (b : Fin 24) (id : HandsetId) (kind : HandsetKind)
    (battery : Nat) : State :=
  let foreign := s.onBay r b fun y => { y with foreign := true }
  if s.hrs.autoEnrol then
    match s.emptyEntry with
    | some e =>
      (s.enterRoster e ⟨id, kind, .docked r b, battery, false, none, none⟩).sendNotice
        (.enrolled id kind e r b battery)
    | none => foreign.sendNotice (.rosterFull id kind r b)
  else foreign

/-- The handset of entry `e` docks (R141). -/
def State.dockKnown (s : State) (r : Fin 8) (b : Fin 24) (e : Fin 512) (x : RosterEntry)
    (battery : Nat) : State :=
  let docked := some { x with state := .docked r b, battery := battery }
  let returned (work : Option Assignment) : Notice :=
    .returned x.id x.kind e r b battery x.state.name work
  match x.state with
  | .issued work _ => ((s.endWork work).setEntry e docked).sendNotice (returned (some work))
  | .missing work => ((s.endWork work).setEntry e docked).sendNotice (returned (some work))
  | .recalled => (s.setEntry e docked).sendNotice (returned none)
  | .loose => (s.setEntry e docked).sendNotice (returned none)
  | .docked r' b' =>
    let s := s.setEntry e docked
    if r' = r && b' = b then s
    else match s.transactionOf x.id with
      | some i => s.endTransaction i .handsetLost none
      | none => s

/-- A docking of handset `id` at a bay (R140, R141). -/
def State.takeDocking (s : State) (r : Fin 8) (b : Fin 24) (id : HandsetId) (kind : HandsetKind)
    (battery : Nat) : State :=
  let s := s.clearOthers r b id
  match s.findEntry id with
  | none => s.dockUnknown r b id kind battery
  | some e =>
    match s.entry e with
    | some x => s.dockKnown r b e x battery
    | none => s

/-! ## Removals (R142, R148) -/

/-- The subject of transaction `i` is taken from its bay in TAKE-WAIT (R148). -/
def State.takeIssued (s : State) (i : Fin 4) (work : Assignment) (e : Fin 512) (x : RosterEntry)
    (battery : Nat) : State :=
  let x := { x with battery := battery }
  match work with
  | .listener p _ =>
    if (s.program p).isOpen then
      let w := Assignment.listener p (s.program p).tour
      ((s.setEntry e (some (x.issueNew w s.hrs.missTimeout))).beginWork e w).endTransaction i .taken
        (some (.issued, some w))
    else
      (s.setEntry e (some { x with state := .recalled })).endTransaction i .taken
        (some (.recalled, none))
  | .speaker .. =>
    ((s.setEntry e (some (x.issueNew work s.hrs.missTimeout))).beginWork e work).endTransaction i
      .taken (some (.issued, some work))

/-- A removal of handset `id` from a bay; `battery` is the bay record's before it (R142). -/
def State.takeRemoval (s : State) (r : Fin 8) (b : Fin 24) (id : HandsetId)
    (battery : Option Nat) : State :=
  match s.findEntry id with
  | none => s
  | some e =>
    match s.entry e with
    | none => s
    | some x =>
      if x.state ≠ .docked r b then s
      else match (s.bay r b).reservation with
        | none => s.looseUnissued r b e
        | some i =>
          match s.transaction i with
          | none => s.looseUnissued r b e
          | some t =>
            if t.state = .takeWait then s.takeIssued i t.work e x (battery.getD x.battery)
            else (s.makeLoose e x).endTransaction i .handsetLost none

/-! ## Exchanges and status replies (R139, R146, R147) -/

/-- Change the transaction at place `i`. -/
def State.onTransaction (s : State) (i : Fin 4) (f : Transaction → Transaction) : State :=
  s.setTransaction i ((s.transaction i).map f)

/-- The running transaction of a rack that an ended exchange with this image tag belongs to, in a state
(R139). -/
def State.ownerOf (s : State) (r : Fin 8) (tag : Byte) (st : TransactionState) : Option (Fin 4) :=
  match s.transactionOn r with
  | some i =>
    match s.transaction i with
    | some t => if t.imageTag = tag && t.state = st then some i else none
    | none => none
  | none => none

/-- An IMAGE exchange ended; `named` says that an IMAGE ACK named the transaction's bay and tag (R146). -/
def State.imageEnded (s : State) (r : Fin 8) (tag : Byte) (named : Bool) : State :=
  let s := s.setMark r false
  match s.ownerOf r tag .imaging with
  | some i => if named then s else s.onTransaction i fun t => { t with retry := some .image }
  | none => s

/-- A RELEASE ACK ended its exchange; `named` says that it named the transaction's bay (R147). -/
def State.releaseAcked (s : State) (r : Fin 8) (tag : Byte) (named : Bool) : State :=
  let s := s.setMark r false
  match s.ownerOf r tag .releasing with
  | some i =>
    if named then
      s.onTransaction i fun t =>
        { t with state := .takeWait, timer := some (s.now + 30000 * Config.millisecond) }
    else s.askRelease i
  | none => s

/-- A RELEASE exchange timed out: asked again at once with the rack still ONLINE (R147). -/
def State.releaseTimedOut (s : State) (r : Fin 8) (tag : Byte) : State :=
  let s := s.setMark r false
  match s.ownerOf r tag .releasing with
  | some i => if (s.rack r).link = .online then s.askRelease i else s
  | none => s

/-- The transaction enters RELEASING; a retry of IMAGE is cleared without a request (R146). -/
def Transaction.enterReleasing (t : Transaction) : Transaction :=
  { t with state := .releasing, timer := none, retry := none }

/-- A retry is made again if it fits the state (R146). -/
def State.retryRequest (s : State) (i : Fin 4) (retry : Option RetryRequest) : State :=
  match retry, s.transaction i with
  | some .image, some t => if t.state = .imaging then s.askImage i else s
  | some .release, some t => if t.state = .releasing then s.askRelease i else s
  | _, _ => s

/-- ISE is told that a status reply of the rack has been taken: the image state, the acknowledged plan and
the retry as it stood when ISE was told, one set earlier in the same reply with it (R134 step 4, R146, R147;
DESIGN CHOICE, log 20). -/
def State.statusTaken (s : State) (r : Fin 8) : State :=
  match s.transactionOn r with
  | none => s
  | some i =>
    match s.transaction i with
    | none => s
    | some t =>
      let image := (s.bay t.rack t.bay).image
      if t.state = .imaging && image = .failed t.imageTag then s.endTransaction i .imageFailed none
      else
        let s :=
          if t.state = .imaging && image = .done t.imageTag then
            s.onTransaction i Transaction.enterReleasing
          else s
        (s.readAckFor i).retryRequest i t.retry

/-- CHP tells ISE that a CHARGE ACK of the rack has been taken (R147, R163). -/
def State.ackTaken (s : State) (r : Fin 8) : State :=
  match s.transactionOn r with
  | none => s
  | some i => s.readAckFor i

/-! ## Loss, NIGHT and STANDALONE (R153 to R155) -/

/-- The loss of a rack reaches ISE; its latch is cleared before the end of its transaction would act on it
(R154, log 10). -/
def State.issueLoss (s : State) (r : Fin 8) : State :=
  let s := ((s.setLatch r false).setTakeRequest r none).setMark r false
  match s.transactionOn r with
  | some i => s.endTransaction i .rackLost none
  | none => s

/-- A pending take request of a rack is dropped for NIGHT. -/
def State.dropRequestForNight (s : State) (r : Fin 8) : State :=
  if (s.ise.takeRequests.get r).isSome then
    (s.setTakeRequest r none).sendNotice (.takeDropped r none .night)
  else s

/-- A set take latch of a rack is cleared for NIGHT. -/
def State.dropLatchForNight (s : State) (r : Fin 8) : State :=
  if s.ise.latches.get r then (s.setLatch r false).sendNotice (.takeDropped r none .night) else s

/-- A transaction in IMAGING or RELEASING ends CANCELLED. -/
def State.cancelForNight (s : State) (i : Fin 4) : State :=
  match s.transaction i with
  | some t => if t.state = .takeWait then s else s.endTransaction i .cancelled none
  | none => s

/-- ISE takes the entry to NIGHT (R155). Latches are cleared before any transaction ends; the order of the
two groups of notices is open (log 11). -/
def State.issueNight (s : State) : State :=
  let drops (s : State) : State :=
    (List.finRange 8).foldl State.dropLatchForNight
      ((List.finRange 8).foldl State.dropRequestForNight s)
  let cancels (s : State) : State := (List.finRange 4).foldl State.cancelForNight s
  if s.choose.1 then
    let latched := s.choose.2.ise.latches
    let s := s.choose.2.onIse fun e => { e with latches := .fill 8 false }
    let s := (cancels s).onIse fun e => { e with latches := latched }
    drops s
  else drops s.choose.2 |> cancels

/-- On entry to STANDALONE every take request with its reaction timer running falls back, in ascending
rack order (R153). -/
def State.standaloneFallback (s : State) : State :=
  (List.finRange 8).foldl (fun s r =>
    if (s.ise.takeRequests.get r).isSome then s.takeDefault r else s) s

/-- A close ends the receiver transactions for the program that are not in TAKE-WAIT (R112), in ascending
index (log 12). -/
def State.closeTransaction (p : Fin 32) (s : State) (i : Fin 4) : State :=
  match s.transaction i with
  | some t =>
    if t.work.program = some p && t.state ≠ .takeWait then s.endTransaction i .cancelled none else s
  | none => s

/-- How many transactions a close of the program cancels. -/
def State.closeCount (s : State) (p : Fin 32) : Nat :=
  (s.ise.transactions.places fun t => match t with
    | some x => x.work.program == some p && x.state != .takeWait
    | none => false).length

/-! ## The timers -/

/-- IMAGING_TIMER_EXPIRY: the transaction ends IMAGE FAILED (R146). Nothing happens when it is not in
IMAGING (log 31). -/
def execImagingTimerExpiry (tx : Fin 4) (s : State) : Host.Outcome State Fault Refusal :=
  complete s fun s =>
    match s.transaction tx with
    | some t =>
      match t.state, t.timer with
      | .imaging, some due => (s.reachTime due).endTransaction tx .imageFailed none
      | _, _ => s
    | none => s

/-- TAKE_WAIT_TIMER_EXPIRY: the transaction ends NOT TAKEN (R148). Nothing happens when it is not in
TAKE-WAIT (log 31). -/
def execTakeWaitTimerExpiry (tx : Fin 4) (s : State) : Host.Outcome State Fault Refusal :=
  complete s fun s =>
    match s.transaction tx with
    | some t =>
      match t.state, t.timer with
      | .takeWait, some due => (s.reachTime due).endTransaction tx .notTaken none
      | _, _ => s
    | none => s

/-- REACTION_TIMER_EXPIRY: the take request falls back to its rack's default (R152). Nothing happens when
none is pending (log 31). -/
def execReactionTimerExpiry (rack : Fin 8) (s : State) : Host.Outcome State Fault Refusal :=
  complete s fun s =>
    match s.ise.takeRequests.get rack with
    | some due => (s.reachTime due).takeDefault rack
    | none => s

end Sys2Proof.Machine
end

