-- ==== Sys2Proof/Machine/RackLink.lean ====
section
/-! DEFINITION. The Rack Link Controller's exchanges (spec 07): a rack's loss and its return to service, BAY
STATUS replies bay by bay, the end of an exchange by a reply or a timeout, and the frames the line brings. -/

namespace Sys2Proof.Machine

/-! ## A rack leaves or enters service (R124, R125, R129) -/

/-- A bay with its unknown values; the reservation stands (R125). -/
def Bay.unknown (b : Bay) : Bay := { Bay.reset with reservation := b.reservation }

/-- Every bay of a rack takes its unknown values. -/
def State.forgetBays (s : State) (r : Fin 8) : State :=
  s.onRlc fun c => { c with bays := c.bays.modify r (Table.map Bay.unknown) }

/-- A rack enters OFFLINE (R129): the queue and the bays first, then the loss reaches ISE and CHP and the
condition is raised, with no order between the notices of the loss and of the condition. -/
def State.enterOffline (s : State) (r : Fin 8) : State :=
  let s := s.onRlc (RackController.removeEntries r fun q => !q.isPoll)
  let s := (s.onRack r fun k => { k with link := .offline, lastTakeCount := none }).forgetBays r
  (s.chargeLoss r).inEitherOrder (fun s => s.issueLoss r) (fun s => s.raiseRackOffline r)

/-- A rack is taken out of service (R124): every waiting entry goes, the exchange in flight with it is marked,
and the rest as at OFFLINE with link state UNKNOWN and the condition cleared. -/
def State.leaveService (s : State) (r : Fin 8) : State :=
  let s := s.onRlc fun c => (c.removeEntries r fun _ => true).markInFlight r
  let s := (s.onRack r fun k =>
    { k with link := .unknown, missCount := 0, lastTakeCount := none }).forgetBays r
  ((s.issueLoss r).chargePresence r).clearRackOffline r

/-- A rack is put back in service (R124). -/
def State.enterService (s : State) (r : Fin 8) : State :=
  ((s.onRack r fun k =>
    { k with link := .unknown, missCount := 0, lastTakeCount := none }).forgetBays r).chargePresence r

/-! ## One bay of a BAY STATUS reply (R134 step 1, R135) -/

/-- The handset ID of an OCCUPIED bay; none for EMPTY and UNKNOWN. -/
def Occupancy.handset : Occupancy → Option HandsetId
  | .occupied id _ => some id
  | _ => none

/-- The battery of an OCCUPIED bay. -/
def Occupancy.level : Occupancy → Option Nat
  | .occupied _ battery => some battery
  | _ => none

/-- Occupancy or handset ID differ between a record and a report. -/
def Occupancy.changed : Occupancy → Occupancy → Bool
  | .unknown, .unknown => false
  | .empty, .empty => false
  | .occupied x _, .occupied y _ => x != y
  | _, _ => true

/-- A report that passed is written into a bay record (R135). -/
def Bay.write (p : BayReport) (b : Bay) : Bay :=
  { b with
    occupancy := p.occupancy
    foreign := b.foreign && !b.occupancy.changed p.occupancy
    charger := p.charger
    latch := p.latch
    image := p.image }

/-- The removals a comparison finds: of the handset the record held, or, from UNKNOWN, of the handset
DOCKED at the bay (R134). -/
def State.removals (s : State) (r : Fin 8) (b : Fin 24) (before : Bay) (after : Occupancy) :
    List HandsetId :=
  match before.occupancy, after with
  | .occupied x _, .empty => [x]
  | .occupied x _, .occupied y _ => if x = y then [] else [x]
  | .unknown, .empty => (s.dockedAt r b).filterMap fun e => (s.entry e).map RosterEntry.id
  | _, _ => []

/-- The entry of a handset is DOCKED at a bay. -/
def State.isDockedAt (s : State) (r : Fin 8) (b : Fin 24) (id : HandsetId) : Bool :=
  match (s.findEntry id).bind s.entry with
  | some x => x.state = .docked r b
  | none => false

/-- The docking a comparison finds, judged after the removal (R134). -/
def State.docking (s : State) (r : Fin 8) (b : Fin 24) (before : Bay) (p : BayReport) : State :=
  match before.occupancy, p.occupancy with
  | .empty, .occupied y battery => s.takeDocking r b y p.kind battery
  | .occupied x _, .occupied y battery => if x = y then s else s.takeDocking r b y p.kind battery
  | .unknown, .occupied y battery =>
    if s.isDockedAt r b y then s else s.takeDocking r b y p.kind battery
  | _, _ => s

/-- A report enters FAULT: the CHARGER FAULT notice (R135). -/
def State.chargerFault (s : State) (r : Fin 8) (b : Fin 24) (before : Bay) (p : BayReport)
    (temperature : Int) : State :=
  if p.charger = .fault && before.charger ≠ .fault then
    s.sendNotice (.chargerFault r b p.occupancy.handset p.occupancy.level temperature)
  else s

/-- A report that passed: written, then its notice, its removal and its docking (R134, R135, log 30). -/
def State.takeGoodReport (s : State) (r : Fin 8) (b : Fin 24) (p : BayReport) (temperature : Int) :
    State :=
  let before := s.bay r b
  let s := (s.onBay r b (Bay.write p)).chargerFault r b before p temperature
  let s := (s.removals r b before p.occupancy).foldl
    (fun s id => s.takeRemoval r b id before.occupancy.level) s
  s.docking r b before p

/-- The report of bay `b` in a BAY STATUS payload. -/
def State.takeBay (r : Fin 8) (payload : List Byte) (s : State) (b : Fin 24) : State :=
  match bayReportOf (bayBytes payload b) with
  | some p => s.takeGoodReport r b p (temperatureOf payload)
  | none => s.onRlc fun c => { c with badBayReports := bump c.badBayReports }

/-! ## A BAY STATUS reply (R134, R136) -/

/-- The take presses of take count `c` against the last one. -/
def pressesOf (last : Option Byte) (c : Byte) : Nat :=
  match last with
  | none => 0
  | some l => (c - l).toNat

/-- The reply's temperature becomes the last temperature and goes to CHP, which plans afresh (R134
step 2, R160). -/
def State.storeTemperature (s : State) (r : Fin 8) (t : Int) : State :=
  ((s.onRack r fun k => { k with lastTemperature := some t }).takeTemperature r t).planRack r

/-- The reply's take count becomes the last take count, and presses go to ISE (R136). -/
def State.storeTakeCount (s : State) (r : Fin 8) (c : Byte) : State :=
  let p := pressesOf (s.rack r).lastTakeCount c
  let s := s.onRack r fun k => { k with lastTakeCount := some c }
  if p = 0 then s else s.takePresses r p

/-- A BAY STATUS reply, in its four steps (R134). -/
def State.takeBayStatus (s : State) (r : Fin 8) (payload : List Byte) : State :=
  let s := (List.finRange 24).foldl (State.takeBay r payload) s
  ((s.storeTemperature r (temperatureOf payload)).storeTakeCount r (byteAt payload 2)).statusTaken r

/-! ## The end of an exchange (R127, R128) -/

/-- A reply acts on its rack's record: REPLIES, and unless the rack has left service since, the miss count and
the link state (R124, R127, log 14). -/
def State.rackReplied (s : State) (r : Fin 8) (leftService : Bool) : State :=
  let s := s.onRack r fun k => { k with replies := bump k.replies }
  if leftService then s
  else
    let wasOffline := (s.rack r).link = .offline
    let s := s.onRack r fun k => { k with missCount := 0, link := .online }
    if wasOffline then s.clearRackOffline r else s

/-- A timeout acts on its rack's record: TIMEOUTS, and unless the rack has left service since, the miss count
and any entry to OFFLINE (R124, R128, log 14). -/
def State.rackTimedOut (s : State) (r : Fin 8) (leftService : Bool) : State :=
  let s := s.onRack r fun k => { k with timeouts := bump k.timeouts }
  if leftService then s
  else
    let s := s.onRack r fun k => { k with missCount := min 3 (k.missCount + 1) }
    if (s.rack r).missCount = 3 && (s.rack r).link ≠ .offline then s.enterOffline r else s

/-- The reply reaches the requester (R127). A BAY STATUS whose rack has left service since the POLL started is
not compared (R124); none of R134's steps is taken for it, the rack present again or not (DESIGN CHOICE where it
is present again, log 43). -/
def State.handReply (x : Exchange) (leftService : Bool) (payload : List Byte) (s : State) : State :=
  match x.request with
  | .poll => if leftService then s else s.takeBayStatus x.rack payload
  | .charge _ => ((s.storeAck x.rack payload).ackTaken x.rack).judgeCharge x.rack
  | .image bay content =>
    s.imageEnded x.rack content.tag
      (byteAt payload 1 = .ofNat 8 bay.val && byteAt payload 2 = content.tag)
  | .release bay owner => s.releaseAcked x.rack owner (byteAt payload 1 = .ofNat 8 bay.val)

/-- The timeout reaches the requester (R127, R128). -/
def State.handTimeout (x : Exchange) (s : State) : State :=
  match x.request with
  | .poll => s
  | .charge _ => s.judgeCharge x.rack
  | .image _ content => s.imageEnded x.rack content.tag false
  | .release _ owner => s.releaseTimedOut x.rack owner

/-- The line is free and the rack's record takes the end, an entry to OFFLINE with it (DESIGN CHOICE, log 40);
the next exchange starts before or after the requester takes the end (R126, R127, log 2). -/
def State.endExchange (s : State) (onRack hand : State → State) : State :=
  (onRack (s.onRlc fun c => { c with inFlight := none })).inEitherOrder hand
    fun s => s.onRlc RackController.startExchange

/-- The exchange in flight ends with a reply. -/
def State.endWithReply (s : State) (f : InFlight) (payload : List Byte) : State :=
  s.endExchange (fun s => s.rackReplied f.exchange.rack f.leftService)
    (State.handReply f.exchange f.leftService payload)

/-- The exchange in flight ends with a timeout. -/
def State.endWithTimeout (s : State) (f : InFlight) : State :=
  s.endExchange (fun s => s.rackTimedOut f.exchange.rack f.leftService)
    (State.handTimeout f.exchange)

/-! ## Frames on the rack line (R126, R168) -/

/-- A frame of the rack link is discarded by the framing rules. -/
def State.rackFrameError (s : State) : State :=
  s.onRlc fun c => { c with rackFrameErrors := bump c.rackFrameErrors }

/-- A new start byte abandons a frame partly received (R168). -/
def State.abandonRackFrame (s : State) : State :=
  match s.rlc.receive with
  | .hunt => s
  | .inFrame _ _ => s.rackFrameError.onRlc fun c => { c with receive := .hunt }

/-- The exchange in flight that a good frame answers: the addressed rack, and the reply kind of the request
(R126). -/
def State.answered (s : State) (kind : Byte) (payload : List Byte) : Option InFlight :=
  s.rlc.inFlight.filter fun f =>
    kind = f.exchange.request.replyKind && byteAt payload 0 = .ofNat 8 f.exchange.rack.val

/-- A good frame is taken: it ends the exchange in flight, or is a stray reply (R126). -/
def State.takeGoodRackFrame (s : State) (kind : Byte) (payload : List Byte) : State :=
  match s.answered kind payload with
  | some f => s.endWithReply f payload
  | none => s.onRlc fun c => { c with strayReplies := bump c.strayReplies }

/-- A frame arrives whole on the rack line; one whose kind or length the link does not take is discarded
(R126, R168). -/
def State.takeRackFrame (s : State) (kind : Byte) (payload : List Byte) : State :=
  let s := s.abandonRackFrame
  if kindAllows .rack kind payload.length then s.takeGoodRackFrame kind payload
  else s.rackFrameError

/-! ## The commands of the rack line -/

/-- BAY_STATUS: a BAY STATUS frame arrives (R127, R134). -/
def execBayStatus (time : Time) (payload : List Byte) (s : State) : Host.Outcome State Fault Refusal :=
  complete s fun s => (s.reachTime time).takeRackFrame 0x91 payload

/-- CHARGE_ACK: a CHARGE ACK frame arrives (R127, R163). -/
def execChargeAck (time : Time) (payload : List Byte) (s : State) : Host.Outcome State Fault Refusal :=
  complete s fun s => (s.reachTime time).takeRackFrame 0x92 payload

/-- IMAGE_ACK: an IMAGE ACK frame arrives (R127, R146). -/
def execImageAck (time : Time) (payload : List Byte) (s : State) : Host.Outcome State Fault Refusal :=
  complete s fun s => (s.reachTime time).takeRackFrame 0x93 payload

/-- RELEASE_ACK: a RELEASE ACK frame arrives (R127, R147). -/
def execReleaseAck (time : Time) (payload : List Byte) (s : State) :
    Host.Outcome State Fault Refusal :=
  complete s fun s => (s.reachTime time).takeRackFrame 0x94 payload

/-- STRAY_REPLY: a frame of any kind arrives; it is stray when it answers no exchange in flight (R126). -/
def execStrayReply (time : Time) (kind : Byte) (payload : List Byte) (s : State) :
    Host.Outcome State Fault Refusal :=
  complete s fun s => (s.reachTime time).takeRackFrame kind payload

/-- REPLY_TIMEOUT: the reply timer of the exchange in flight expires (R126, R128). Nothing happens when it
does not run (log 31). -/
def execReplyTimeout (s : State) : Host.Outcome State Fault Refusal :=
  complete s fun s =>
    match s.rlc.inFlight with
    | some f =>
      match f.replyTimer with
      | some due => (s.reachTime due).endWithTimeout f
      | none => s
    | none => s

end Sys2Proof.Machine
end

