-- ==== Sys2Proof/Machine/AirPort.lean ====
section
/-! DEFINITION. The Air Port (spec 01): following the strobe, the superframe start and the end of
superframes, uplink arrivals, the air error counter and the channel plan, and the buffers with their
placements and fetches. -/

namespace Sys2Proof.Machine

/-! ## Windows (spec 01, "Following the strobe") -/

/-- The earliest strobe in tolerance after the point measured from: 9.9 ms. -/
def windowOpens : Nat := 9900

/-- The latest: 10.1 ms. -/
def windowCloses : Nat := 10100

/-- A superframe: 10.0 ms. -/
def superframeLength : Nat := 10000

/-- The flywheel count at which superframes end (R3). -/
def flywheelLimit : Nat := 8

/-- AP is in SYNCED or FLYWHEEL: superframes run. -/
def AirPort.onAir (a : AirPort) : Bool := a.sync = .synced || a.sync = .flywheel

/-! ## The superframe start (R5, R6, R14) -/

/-- The plan a CONTROL WORD or VOID MAP for superframe `n` carries: the plan record's when it is for `n`,
else P (R6, R11). -/
def AirPort.planFor (n : Superframe) (a : AirPort) : Plan :=
  match a.planRecord with
  | some (m, p) => if m = n then p else a.plan
  | none => a.plan

/-- AP puts a transfer on ADAT_OUT (log 7). -/
def AirPort.send (t : AirTransfer) (a : AirPort) : AirPort := { a with adatOut := a.adatOut ++ [t] }

/-- The guard count and the quiet run at a start (R14). -/
def AirPort.countStart (a : AirPort) : AirPort :=
  { a with
    guardCount := min 500 (a.guardCount + 1)
    quietRun := if a.airErrors = 0 then min 500 (a.quietRun + 1) else 0 }

/-- AP's own part of the start of superframe `n` (R5). -/
def AirPort.start (n : Superframe) (a : AirPort) : AirPort :=
  (({ a with superframe := n } : AirPort).send (.controlWord n (a.planFor n) true)).countStart

/-- Superframe `n` starts: AP's part, then the announcement to SRC, TRC, ATS and HRS. Whether ATS takes
the start before or after SRC and TRC is open (R5, R66, R119, log 2). Miss expiries still waiting from an earlier start
are taken before it (log 5). -/
def State.superframeStart (n : Superframe) (s : State) : State :=
  let s := s.takeMissesDue.onAp (AirPort.start n)
  let s := if s.ap.quietRun = 500 then s.clearAirDegraded else s
  let s := s.inEitherOrder State.toursStart fun s =>
    s.inEitherOrder (State.sourcesStart n) (State.schedulerStart n)
  s.rosterStart

/-! ## The end of superframes (R4) -/

/-- AP's own part of the end of superframes (R4, log 27). -/
def AirPort.endSuperframes (a : AirPort) : AirPort :=
  { a.send (.controlWord a.superframe a.plan false) with
    buffers := .fill 12 ⟨none, none⟩
    mapBuffer := ⟨none, none⟩
    planRecord := none
    flywheel := 0
    reference := none }

/-- Superframes end: AP's part, and the reactions of SRC, ATS and TRC (R4, R34, R81, R122). -/
def State.endSuperframes (s : State) : State :=
  (((s.onAp AirPort.endSuperframes).onSources Source.endSuperframes).onAts Scheduler.clear).clearTours

/-- AP goes to `target`, SYNCING or STOPPED, first ending superframes where they run (R4, R15, R17). -/
def State.leaveAir (s : State) (target : SyncState) : State :=
  (if s.ap.onAir then s.endSuperframes else s).onAp fun a =>
    { a with sync := target, lastStrobe := none, intervalCount := 0 }

/-! ## The strobe and the window (R1 to R3) -/

/-- AP enters SYNCED at a strobe (R1). -/
def AirPort.enterSynced (time : Time) (a : AirPort) : AirPort :=
  { a with
    sync := .synced
    lastStrobe := some time
    intervalCount := 4
    reference := some time
    flywheel := 0
    micMarks := .fill 16 none
    reportMarks := .fill 4 none }

/-- An interval lies within tolerance. -/
def inTolerance (d : Nat) : Bool := windowOpens ≤ d && d ≤ windowCloses

/-- The interval count after a strobe in SYNCING that was not the first. -/
def AirPort.nextInterval (a : AirPort) (last time : Time) : Nat :=
  if inTolerance (time - last) then a.intervalCount + 1 else 0

/-- A strobe in SYNCING (R1). -/
def State.strobeSyncing (s : State) (time : Time) : State :=
  match s.ap.lastStrobe with
  | none => s.onAp fun a => { a with lastStrobe := some time }
  | some last =>
    let c := s.ap.nextInterval last time
    if c < 4 then s.onAp fun a => { a with lastStrobe := some time, intervalCount := c }
    else ((s.onAp (AirPort.enterSynced time)).clearSyncLost).superframeStart 0

/-- A strobe in the window starts the next superframe (R2, R3). -/
def State.strobeStart (s : State) (time : Time) : State :=
  (s.onAp fun a => { a with sync := .synced, reference := some time, flywheel := 0 }).superframeStart
    (s.ap.superframe + 1)

/-- A strobe in SYNCED or FLYWHEEL, with reference time `ref`, whose window has not closed (R2, R3). -/
def State.strobeOnAir (s : State) (ref time : Time) : State :=
  if time < ref + windowOpens then s.onAp fun a => { a with syncFaults := bump a.syncFaults }
  else s.strobeStart time

/-- The flywheel count after a window has closed: 1 from SYNCED (R2), one more in FLYWHEEL (R3). -/
def AirPort.nextFlywheel (a : AirPort) : Nat := if a.sync = .synced then 1 else a.flywheel + 1

/-- The window closes with no strobe taken in it, with reference time `ref` (R2, R3, R4). -/
def State.closeWindow (s : State) (ref : Time) : State :=
  if s.ap.nextFlywheel < flywheelLimit then
    (s.onAp fun a =>
      { a with
        sync := .flywheel
        flywheel := a.nextFlywheel
        reference := some (ref + superframeLength) }).superframeStart (s.ap.superframe + 1)
  else (s.leaveAir .syncing).raiseSyncLost

/-- Windows that closed before a strobe at `time` are closed first (log 6); at most eight close. Each is an event of
its own, at whose end SLI starts the next frame (R169). -/
def State.closeWindows (time : Time) : Nat → State → State
  | 0, s => s
  | k + 1, s =>
    match s.ap.reference with
    | some ref =>
      if s.ap.onAir && ref + windowCloses < time then
        closeWindows time k ((s.reachTime (ref + windowCloses)).closeWindow ref).startTransmission
      else s
    | none => s

/-- A strobe is taken in whatever state AP stands (R1 to R3, R15). -/
def State.strobe (s : State) (time : Time) : State :=
  match s.ap.sync with
  | .stopped => s
  | .syncing => s.strobeSyncing time
  | .synced => match s.ap.reference with
    | some ref => s.strobeOnAir ref time
    | none => s
  | .flywheel => match s.ap.reference with
    | some ref => s.strobeOnAir ref time
    | none => s

/-- SUPERFRAME_STROBE: a strobe on SFS (R1 to R3, R15). -/
def execSuperframeStrobe (time : Time) (s : State) : Host.Outcome State Fault Refusal :=
  complete s fun s =>
    let s := (s.closeWindows (max s.now time) flywheelLimit).reachTime time
    s.strobe s.now

/-- WINDOW_EXPIRY: the strobe window closes with no strobe taken in it (R2 to R4). Nothing happens while
no superframes run (log 31). -/
def execWindowExpiry (s : State) : Host.Outcome State Fault Refusal :=
  complete s fun s =>
    if s.ap.onAir then
      match s.ap.reference with
      | some ref => (s.reachTime (ref + windowCloses)).closeWindow ref
      | none => s
    else s

/-! ## The air error counter and the channel plan (R12, R13) -/

/-- The other plan. -/
def Plan.other : Plan → Plan
  | .a => .b
  | .b => .a

/-- An overflow of the air error counter (R13). -/
def State.airOverflow (s : State) : State :=
  if s.ap.guardCount = 500 then
    let s := s.onAp fun a =>
      { a with plan := a.plan.other, guardCount := 0, planToggles := bump a.planToggles }
    (s.sendNoticeAt s.ap.superframe (.interference s.ap.plan)).clearAirDegraded
  else s.raiseAirDegraded

/-- An in-time mic arrival steps the air error counter (R12). -/
def State.airErrorStep (content : MicArrival) (s : State) : State :=
  match content with
  | .good _ => s.onAp fun a => { a with airErrors := a.airErrors - 1 }
  | .absent => s
  | .bad =>
    if s.ap.airErrors < 31 then
      s.onAp fun a => { a with quietRun := 0, airErrors := a.airErrors + 1 }
    else (s.onAp fun a => { a with quietRun := 0, airErrors := 0 }).airOverflow

/-! ## Uplink arrivals (R7, R8, R27 to R29) -/

/-- The tour of a bound microphone's entry, and the key state of an arrival, reach TRC (R28, R113). -/
def State.tellKey (s : State) (k : Fin 16) (x : RosterEntry) (raw : KeyState) : State :=
  match x.state.work with
  | some w => s.takeKey k x.id w.tour raw
  | none => s

/-- A missing block of a bound slot (R27, R29). -/
def State.micMissing (s : State) (k : Fin 16) (x : RosterEntry) (outcome : ArrivalOutcome) : State :=
  (s.onSource (micSource k) (Source.missingBlock s.ap.superframe outcome)).tellKey k x
    (s.source (micSource k)).lastRawKey

/-- A good block of a bound slot: SRC's part, the news for HRS and the key for TRC (R28). -/
def State.micGood (s : State) (k : Fin 16) (x : RosterEntry) (b : MicBlock) : State :=
  ((s.onSource (micSource k) (Source.goodBlock s.ap.superframe b)).onHandovers fun h =>
    { h with heard := h.heard ++ [⟨k, s.ap.superframe, b.battery⟩] }).tellKey k x b.key

/-- SRC sorts an in-time mic arrival (R27). -/
def State.sortMic (k : Fin 16) (content : MicArrival) (s : State) : State :=
  match s.boundHandset k with
  | none => s
  | some x =>
    match content with
    | .good b =>
      if b.id = x.id then s.micGood k x b
      else (s.onSource (micSource k) fun r =>
        { r with foreignBlocks := bump r.foreignBlocks }).micMissing k x .foreign
    | .bad => s.micMissing k x .bad
    | .absent => s.micMissing k x .absent

/-- A duplicate arrival (R7). -/
def State.duplicateArrival (s : State) : State :=
  s.onAp fun a => { a with duplicateArrivals := bump a.duplicateArrivals }

/-- An arrival for Uk while superframes run (R7, R8). -/
def State.takeMic (s : State) (k : Fin 16) (tag : Superframe) (content : MicArrival) : State :=
  if tag ≠ s.ap.superframe then
    s.onSource (micSource k) fun r => { r with lateBlocks := bump r.lateBlocks }
  else if s.ap.micMarks.get k = some tag then s.duplicateArrival
  else
    (s.onAp fun a => { a with micMarks := a.micMarks.set k (some tag) }).inEitherOrder
      (State.airErrorStep content) (State.sortMic k content)

/-- An in-time arrival for a report slot reaches HRS (R8, R92). -/
def State.takeReportArrival (s : State) (content : ReportArrival) : State :=
  match content with
  | .good r => s.takeReport s.ap.superframe r
  | .bad => s.onHrs fun h => { h with reportErrors := bump h.reportErrors }
  | .absent => s

/-- An arrival for Pj while superframes run (R7, R8). -/
def State.takePresence (s : State) (j : Fin 4) (tag : Superframe) (content : ReportArrival) : State :=
  if tag ≠ s.ap.superframe then s.onAp fun a => { a with lateReports := bump a.lateReports }
  else if s.ap.reportMarks.get j = some tag then s.duplicateArrival
  else (s.onAp fun a => { a with reportMarks := a.reportMarks.set j (some tag) }).takeReportArrival
    content

/-- UPLINK_ARRIVAL: an arrival with the bytes of its transfer (R7, R8, R182). -/
def execUplinkArrival (transfer : List Byte) (s : State) : Host.Outcome State Fault Refusal :=
  complete s fun s =>
    if s.ap.onAir then
      match arrivalOf transfer with
      | some (.mic k tag content) => s.takeMic k tag content
      | some (.report j tag content) => s.takePresence j tag content
      | none => s
    else s

/-- MIC_HEARD: HRS takes the oldest waiting news that the handset bound to the slot was heard (R90,
log 3). -/
def execMicHeard (slot : Fin 16) (s : State) : Host.Outcome State Fault Refusal :=
  complete s fun s =>
    match s.handovers.heard.find? fun h => h.slot == slot with
    | some h =>
      (s.onHandovers fun x => { x with heard := x.heard.eraseP fun h => h.slot == slot }).takeHeard h
    | none => s

/-! ## Placements (R9) -/

/-- A placement is for a buffer. -/
def Placement.isFor (b : BufferId) : Placement → Bool
  | .downlink d _ => b = .downlink d
  | .map _ => b = .map

/-- A placement tagged `t` is taken into a buffer with this fetched mark (R9). -/
def AirPort.takes (t : Superframe) (fetched : Option Superframe) (a : AirPort) : Bool :=
  a.onAir && (t = a.superframe || t = a.superframe + 1) && fetched ≠ some t

/-- AP takes or discards a placement (R9). -/
def AirPort.place (p : Placement) (a : AirPort) : AirPort :=
  match p with
  | .downlink d block =>
    if a.takes block.tag (a.buffers.get d).fetched then
      { a with buffers := a.buffers.modify d fun b => { b with held := some block } }
    else a
  | .map m =>
    if a.takes m.target a.mapBuffer.fetched then
      { a with
        mapBuffer := { a.mapBuffer with held := some { m with plan := some a.plan } }
        planRecord := some (m.target, a.plan) }
    else a

/-- PLACEMENT: AP takes or discards the oldest placement waiting for the buffer (R9, log 3). -/
def execPlacement (buffer : BufferId) (s : State) : Host.Outcome State Fault Refusal :=
  complete s fun s =>
    match s.handovers.placements.find? (Placement.isFor buffer) with
    | some p =>
      (s.onHandovers fun h =>
        { h with placements := h.placements.eraseP (Placement.isFor buffer) }).onAp (AirPort.place p)
    | none => s

/-! ## Fetches (R10, R11) -/

/-- The FILL block AP sends for a late fetch (R10, R182). -/
def lateFill (m : Superframe) : DownlinkBlock := ⟨m, .fillForLateFetch, silence⟩

/-- What a buffer keeps after a fetch that asked for `m`: only what is not `m` or behind it (R10, R11,
log 18). -/
def keepAfterFetch (m tag : Superframe) : Bool := !(tag == m || ahead m tag)

/-- A fetch of slot Dk while superframes run (R10). -/
def AirPort.fetchSlot (d : Fin 12) (m : Superframe) (a : AirPort) : AirPort :=
  match (a.buffers.get d).held with
  | some block =>
    if block.tag = m then
      ({ a with buffers := a.buffers.set d ⟨none, some m⟩ } : AirPort).send (.downlink block)
    else
      ({ a with
          buffers := a.buffers.set d ⟨if keepAfterFetch m block.tag then some block else none, some m⟩
          lateFills := bump a.lateFills } : AirPort).send (.downlink (lateFill m))
  | none =>
    ({ a with
        buffers := a.buffers.set d ⟨none, some m⟩
        lateFills := bump a.lateFills } : AirPort).send (.downlink (lateFill m))

/-- A VOID MAP (R11, R182). -/
def voidMap (target : Superframe) (plan : Plan) : MapBlock where
  target := target
  plan := some plan
  void := true
  allCallSlot := none
  slots := .fill 12 none
  uplinks := .fill 16 none
  retunes := []
  recalls := []

/-- A map fetch answered with a VOID MAP while superframes run (R11). -/
def AirPort.fetchVoid (t : Superframe) (a : AirPort) : AirPort :=
  ({ a with
      mapBuffer := ⟨a.mapBuffer.held.filter fun m => keepAfterFetch t m.target, some t⟩
      planRecord := some (t, a.planFor t)
      lateFills := bump a.lateFills } : AirPort).send (.map (voidMap t (a.planFor t)))

/-- A fetch of the map slot during superframe `m` (R11). -/
def AirPort.fetchMap (m : Superframe) (a : AirPort) : AirPort :=
  if a.onAir then
    match a.mapBuffer.held with
    | some map =>
      if map.target = m + 1 then
        ({ a with mapBuffer := ⟨none, some (m + 1)⟩ } : AirPort).send (.map map)
      else a.fetchVoid (m + 1)
    | none => a.fetchVoid (m + 1)
  else a.send (.map (voidMap a.superframe a.plan))

/-- A fetch with a slot code (R10, R182). -/
def AirPort.fetch (code : Byte) (m : Superframe) (a : AirPort) : AirPort :=
  if code = 0x30 then a.fetchMap m
  else match downlinkSlotOf code with
    | some d => if a.onAir then a.fetchSlot d m else a.send (.downlink (lateFill m))
    | none => a.send (.downlink (lateFill m))

/-- FETCH: the radio module fetches the slot a code names (R10). -/
def execFetch (slotCode : Byte) (m : Superframe) (s : State) : Host.Outcome State Fault Refusal :=
  complete s fun s => s.onAp (AirPort.fetch slotCode m)

/-- MAP_FETCH: the radio module fetches the map slot (R11). -/
def execMapFetch (m : Superframe) (s : State) : Host.Outcome State Fault Refusal :=
  complete s fun s => s.onAp (AirPort.fetchMap m)

/-! ## Countdown expiries (R89, R119) -/

/-- MISS_COUNTDOWN_EXPIRY: an ISSUED entry whose countdown has reached 0 becomes MISSING (R89). -/
def execMissCountdownExpiry (entry : Fin 512) (s : State) : Host.Outcome State Fault Refusal :=
  complete s fun s => s.expireMiss entry

/-- RECALL_COUNTDOWN_EXPIRY: a recall order whose countdown has reached 0 is removed (R119). -/
def execRecallCountdownExpiry (tour : Fin 16) (s : State) : Host.Outcome State Fault Refusal :=
  complete s fun s => s.expireRecall tour

end Sys2Proof.Machine
end

