-- ==== Sys2Proof/Machine/Reading.lean ====
section
/-! DEFINITION. The data of READ and STATUS answers (R20, R44, R85, R106, R121, R137, R156, R165, R171, R176).
Where the spec leaves a width or an order to be read from R181, log 16 says which was taken. -/

namespace Sys2Proof.Machine

/-! ## Source (R20) -/

/-- A stored block by its tag and level. -/
def StoredBlock.readBytes (b : StoredBlock) : List Byte :=
  wordBytes b.tag ++ wideBytes (blockLevel b.samples)

/-- A source record. A field its source's kind lacks is sent as it stands at reset (log 16), and idle detection as a
flag, 1 on and 0 off (DESIGN CHOICE, log 44). -/
def Source.readBytes (r : Source) : List Byte :=
  wideBytes r.gain ++ wideBytes r.onThreshold ++ wideBytes r.offThreshold ++ byteBytes r.attack ++
    byteBytes r.hang ++ flagBytes r.enabled ++ flagBytes r.idleDetection ++
    wordBytes r.idlePattern ++ wordBytes r.idleMask ++
    r.detector.code ++ wideBytes r.attackCounter ++ wideBytes r.hangCounter ++
    wideBytes r.lastLevel ++ listBytes StoredBlock.readBytes r.store ++
    presentBytes 3 (fun x => wordBytes x.1 ++ x.2.code) r.lastArrival ++ r.lastRawKey.code ++
    listBytes (fun b => wordBytes b.seqNumber) r.queue ++ r.stream.code ++
    presentBytes 2 wordBytes r.referenceSeq ++ byteBytes r.underrunRun ++
    byteBytes r.highMarkRun ++
    wideBytes r.sourceClips ++ wideBytes r.lateBlocks ++ wideBytes r.foreignBlocks ++
    wideBytes r.missingBlocks ++ wideBytes r.underruns ++ wideBytes r.slips ++
    wideBytes r.overflowDrops ++ wideBytes r.staleFeeds

/-! ## Program (R44) -/

/-- What ATS keeps for a program; the waiting flag is read from the queue. -/
def ProgramSchedule.readBytes (waiting : Bool) (f : ProgramSchedule) : List Byte :=
  presentBytes 1 placeBytes f.holderSlot ++ presentBytes 2 wordBytes f.grantSuperframe ++
    wideBytes f.heldCount ++ presentBytes 1 byteBytes f.releaseCountdown ++ flagBytes waiting ++
    wideBytes f.waitAge ++ flagBytes f.longWaitMark ++ wideBytes f.waitSuperframes

/-- The configuration and MIX's fields of a program record. -/
def Program.readBytes (r : Program) : List Byte :=
  flagBytes r.isOpen ++ placeBytes r.tour ++ [r.label.c0, r.label.c1, r.label.c2, r.label.c3] ++
    byteBytes r.tier ++ flagBytes r.allCall ++ flagBytes r.holdOpen ++ flagBytes r.test ++
    wideBytes r.duckGain ++ wideBytes r.testAmplitude ++ byteBytes r.testHalfPeriod ++
    listBytes (fun e => placeBytes e.source ++ wideBytes e.gain ++ byteBytes e.duckClass)
      r.mixList ++
    wideBytes r.limiterGain ++ byteBytes r.patternPhase ++ wideBytes r.level ++
    wideBytes r.blocksMixed ++ wideBytes r.clippedBlocks ++ wideBytes r.unsentBlocks

/-- The tap as a program's record shows it: mode OFF when the tap is not on the program. -/
def State.tapBytes (s : State) (p : Fin 32) : List Byte :=
  match s.tap with
  | some t =>
    if t.program = p then t.mode.code ++ presentBytes 1 byteBytes t.mode.period else [0, 0, 0]
  | none => [0, 0, 0]

/-- A program's record with the fields of HRS and ATS and the tap. -/
def State.programBytes (s : State) (p : Fin 32) : List Byte :=
  (s.program p).readBytes ++ wideBytes (s.hrs.listeners.get p) ++
    (s.ats.perProgram.get p).readBytes (s.ats.waitQueue.contains p) ++ s.tapBytes p

/-! ## Schedule (R85) -/

/-- One place of the holder table, with its holder's tier, grant superframe, held count and release
countdown. -/
def State.holderBytes (s : State) (h : Option (Fin 32)) : List Byte :=
  optPlaceBytes h ++ presentBytes 1 (fun p => byteBytes (s.program p).tier) h ++
    presentBytes 2 wordBytes (h.bind fun p => (s.ats.perProgram.get p).grantSuperframe) ++
    presentBytes 2 (fun p => wideBytes (s.ats.perProgram.get p).heldCount) h ++
    presentBytes 1 byteBytes (h.bind fun p => (s.ats.perProgram.get p).releaseCountdown)

/-- The schedule. -/
def State.scheduleBytes (s : State) : List Byte :=
  tableBytes s.holderBytes s.ats.holders ++
    listBytes (fun p => placeBytes p ++ byteBytes (s.effectiveTier p) ++
      wideBytes (s.ats.perProgram.get p).waitAge) s.ats.waitQueue ++
    presentBytes 86 MapBlock.bytes s.ats.builtMap ++
    listBytes (fun o => idBytes o.id ++ placeBytes o.program) s.ats.retuneQueue ++
    wideBytes s.ats.releaseDelay ++ wideBytes s.ats.longWaitLimit ++
    wideBytes s.ats.preemptions ++ wideBytes s.ats.retuneDrops

/-! ## Roster views (R106) -/

/-- The rack and bay of an entry that is DOCKED. -/
def EntryState.bay : EntryState → Option (Fin 8 × Fin 24)
  | .docked r b => some (r, b)
  | _ => none

/-- The miss countdown of an ISSUED entry. -/
def EntryState.countdown : EntryState → Option Nat
  | .issued _ c => some c
  | _ => none

/-- The name of an entry's state, EMPTY included. -/
def entryName : Option RosterEntry → EntryStateName
  | some x => x.state.name
  | none => .empty

/-- A roster entry: its state, then every field. -/
def entryBytes (x : Option RosterEntry) : List Byte :=
  let state := x.map RosterEntry.state
  let work := state.bind EntryState.work
  (entryName x).code ++ optIdBytes (x.map RosterEntry.id) ++
    presentBytes 1 HandsetKind.code (x.map RosterEntry.kind) ++
    optPlaceBytes ((state.bind EntryState.bay).map Prod.fst) ++
    optPlaceBytes ((state.bind EntryState.bay).map Prod.snd) ++
    optPlaceBytes (work.bind Assignment.program) ++ optPlaceBytes (work.map Assignment.tour) ++
    optPlaceBytes (work.bind Assignment.slot) ++
    presentBytes 1 byteBytes (x.map RosterEntry.battery) ++
    presentBytes 2 wideBytes (state.bind EntryState.countdown) ++
    presentBytes 1 flagBytes (x.map RosterEntry.lowBattery) ++
    presentBytes 2 wordBytes (x.bind RosterEntry.lastHeard) ++
    presentBytes 1 byteBytes (x.bind RosterEntry.lastQuality)

/-- One uplink slot: free, reserved with its transaction, or bound with its entry and handset ID. -/
def State.slotBytes (s : State) : UplinkState → List Byte
  | .free => [0] ++ [0xFF] ++ [0, 0, 0] ++ idBytes 0
  | .reserved tx => [1] ++ placeBytes tx ++ [0, 0, 0] ++ idBytes 0
  | .bound e => [2] ++ [0xFF] ++ [1] ++ wideBytes e.val ++ optIdBytes ((s.entry e).map RosterEntry.id)

/-- The uplink slots. -/
def State.slotsBytes (s : State) : List Byte := tableBytes s.slotBytes s.hrs.slots

/-- The admission filter: the entries and the validity flag. -/
def Roster.filterBytes (h : Roster) : List Byte :=
  tableBytes (fun f => flagBytes f.used ++ idBytes f.pattern ++ idBytes f.mask ++ f.kind.code)
    h.filter ++ flagBytes h.filterValid

/-- The stray list with the five HRS counters. -/
def Roster.strayBytes (h : Roster) : List Byte :=
  listBytes (fun y => idBytes y.id ++ wideBytes y.age) h.strays ++ wideBytes h.reportErrors ++
    wideBytes h.kindMismatches ++ wideBytes h.dockedReports ++ wideBytes h.unadmittedReports ++
    wideBytes h.strayReports

/-! ## Tour Control (R121) -/

/-- A key recognizer. -/
def Recognizer.readBytes (r : Recognizer) : List Byte :=
  r.state.code ++ r.key.code ++ byteBytes r.disagreement ++ byteBytes r.press ++
    byteBytes r.gapCount ++ byteBytes r.window

/-- The recall orders held, in ascending tour number. -/
def TourControl.ascending (c : TourControl) : List RecallOrder :=
  (List.finRange 16).flatMap fun t => c.held.filter fun o => o.tour == t

/-- Tour Control's state. -/
def TourControl.readBytes (c : TourControl) : List Byte :=
  tableBytes Recognizer.readBytes c.recognizers ++
    listBytes (fun o => placeBytes o.tour ++ o.cause.code ++ byteBytes o.countdown) c.ascending

/-! ## Rack and exchange queue (R137) -/

/-- A bay's occupancy by its place in the table of spec 07, with handset ID and battery. -/
def Occupancy.readBytes : Occupancy → List Byte
  | .unknown => [0] ++ idBytes 0 ++ [0, 0]
  | .empty => [1] ++ idBytes 0 ++ [0, 0]
  | .occupied id battery => [2] ++ idBytes id ++ [1] ++ byteBytes battery

/-- A bay's image state and its tag: two fields of one byte each, a presence flag before the tag alone. The two-byte
'image tag pair' of R181 is explained nowhere and is not used (DESIGN CHOICE, log 16). -/
def ImageState.readBytes : ImageState → List Byte
  | .none => [0, 0, 0]
  | .writing tag => [1, 1, tag]
  | .done tag => [2, 1, tag]
  | .failed tag => [3, 1, tag]

/-- A bay record. -/
def Bay.readBytes (b : Bay) : List Byte :=
  b.occupancy.readBytes ++ b.charger.code ++ b.latch.code ++ b.image.readBytes ++
    flagBytes b.foreign ++ optPlaceBytes b.reservation

/-- A rack record. -/
def Rack.readBytes (k : Rack) : List Byte :=
  flagBytes k.present ++ wideBytes k.budget ++ optPlaceBytes k.defaultProgram ++
    k.defaultKind.code ++ byteBytes k.issueThreshold ++ signedBytes k.warmThreshold ++
    signedBytes k.hotThreshold ++ k.link.code ++ byteBytes k.missCount ++
    presentBytes 1 signedBytes k.lastTemperature ++ presentBytes 1 (fun c => [c]) k.lastTakeCount ++
    wideBytes k.replies ++ wideBytes k.timeouts

/-- A rack with its bays. -/
def State.rackBytes (s : State) (r : Fin 8) : List Byte :=
  (s.rack r).readBytes ++ tableBytes Bay.readBytes (s.rlc.bays.get r)

/-- An exchange by its requester, rack and request kind. -/
def Exchange.readBytes (x : Exchange) : List Byte :=
  x.request.readBytes.1 ++ placeBytes x.rack ++ x.request.readBytes.2

/-- The five counters of RLC. -/
def RackController.counterBytes (c : RackController) : List Byte :=
  wideBytes c.rackFrameErrors ++ wideBytes c.strayReplies ++ wideBytes c.skippedPolls ++
    wideBytes c.queueRefusals ++ wideBytes c.badBayReports

/-- The exchange in flight, the queue, each rack's pending CHARGE and the counters. The exchange in flight is
one field that may be none, with one presence flag before its three bytes (DESIGN CHOICE, log 16). -/
def RackController.queueBytes (c : RackController) : List Byte :=
  presentBytes 3 (fun f : InFlight => f.exchange.readBytes) c.inFlight ++
    listBytes Exchange.readBytes c.queue ++
    tableBytes (fun p => flagBytes p.isSome) c.pendingCharge ++ c.counterBytes

/-! ## Transaction table (R156) -/

/-- The time left on a timer, in milliseconds rounded down (log 28). -/
def timeLeft (now : Time) (due : Time) : List Byte := wideBytes ((due - now) / Config.millisecond)

/-- A handset image without its language list. -/
def HandsetImage.readBytes (i : HandsetImage) : List Byte :=
  idBytes i.id ++ i.kind.code ++ [i.tag] ++ placeBytes i.tour ++ optPlaceBytes i.program ++
    optPlaceBytes i.slot ++ byteBytes i.volumeCap

/-- A retry: one byte by its place in the table of spec 08, none the first of its three values, with no presence flag
(DESIGN CHOICE, log 16). -/
def retryBytes : Option RetryRequest → List Byte
  | none => [0]
  | some q => q.code

/-- An occupied place of the table. -/
def Transaction.readBytes (now : Time) (i : Fin 4) (t : Transaction) : List Byte :=
  placeBytes i ++ t.state.code ++ t.origin.bytes ++ placeBytes t.rack ++ placeBytes t.bay ++
    idBytes t.id ++ t.work.kind.code ++ optPlaceBytes t.work.program ++ placeBytes t.work.tour ++
    optPlaceBytes t.work.slot ++ [t.imageTag] ++ t.image.readBytes ++ retryBytes t.retry ++
    presentBytes 2 (timeLeft now) t.timer

/-- The occupied places. -/
def State.occupiedPlaces (s : State) : List (Fin 4 × Transaction) :=
  (List.finRange 4).filterMap fun i => (s.transaction i).map fun t => (i, t)

/-- What ISE keeps for one rack. A take request and its time left are one field (DESIGN CHOICE, log 16). -/
def State.takeBytes (s : State) (r : Fin 8) : List Byte :=
  presentBytes 2 (timeLeft s.now) (s.ise.takeRequests.get r) ++ flagBytes (s.ise.latches.get r) ++
    flagBytes (s.ise.marks.get r)

/-- The transaction table. -/
def State.transactionBytes (s : State) : List Byte :=
  listBytes (fun x => x.2.readBytes s.now x.1) s.occupiedPlaces ++ [s.ise.sequenceNumber] ++
    (List.finRange 8).flatMap s.takeBytes

/-! ## Charge planner (R165) -/

/-- Twenty-four levels with their total. -/
def levelBytes (t : Table 24 ChargeLevel) : List Byte :=
  tableBytes ChargeLevel.code t ++ wideBytes (totalCurrent t)

/-- A rack's charge planner. The acknowledged plan and its total are one field that may be unknown
(DESIGN CHOICE, log 16). -/
def State.plannerBytes (s : State) (r : Fin 8) : List Byte :=
  let p := s.chp.get r
  p.temperature.code ++ wideBytes (s.rackBudget r) ++ levelBytes p.plan ++
    presentBytes 26 levelBytes p.acknowledged ++
    presentBytes 24 (tableBytes ChargeLevel.code) p.lastAsked ++ wideBytes p.chargesAsked ++
    wideBytes p.shortPlans ++ wideBytes p.badAcks

/-! ## STATUS (R176) -/

/-- The condition flags in the order of R174, racks ascending. -/
def SiteLink.flagsBytes (l : SiteLink) : List Byte :=
  flagBytes l.syncLost ++ flagBytes l.airDegraded ++ tableBytes flagBytes l.rackOffline ++
    tableBytes flagBytes l.rackHot ++ flagBytes l.noticesLost

/-- The five counters of AP. -/
def AirPort.counterBytes (a : AirPort) : List Byte :=
  wideBytes a.syncFaults ++ wideBytes a.lateFills ++ wideBytes a.lateReports ++
    wideBytes a.duplicateArrivals ++ wideBytes a.planToggles

/-- The data of a STATUS answer. Auto-enrol is sent as a flag, 1 on and 0 off (DESIGN CHOICE, log 44). -/
def State.statusBytes (s : State) : List Byte :=
  s.sli.mode.code ++ s.sli.link.code ++ flagBytes s.sli.resetPending.isSome ++
    byteBytes s.sli.notices.length ++
    s.ap.sync.code ++ wordBytes s.ap.superframe ++ s.ap.plan.code ++ wideBytes s.ap.airErrors ++
    s.sli.flagsBytes ++ wideBytes s.hrs.missTimeout ++ flagBytes s.hrs.autoEnrol ++
    s.ap.counterBytes ++ wideBytes s.ats.preemptions ++ wideBytes s.ats.retuneDrops ++
    s.rlc.counterBytes ++ wideBytes s.sli.siteFrameErrors ++ wideBytes s.sli.noticesDropped ++
    wideBytes s.sli.tapoutDrops ++ wideBytes s.sli.orderOverruns

/-! ## READ (R171) -/

/-- An index of a table with `n` places. -/
def indexOf (n : Nat) (index : Nat) : Option (Fin n) :=
  if h : index < n then some ⟨index, h⟩ else none

/-- The data of a READ answer, or the code that refuses it. -/
def State.readTable (s : State) (table : Byte) (index : Nat) : Except AnswerCode (List Byte) :=
  let place (n : Nat) (f : Fin n → List Byte) : Except AnswerCode (List Byte) :=
    match indexOf n index with
    | some i => .ok (f i)
    | none => .error .noEntry
  if table = 0 then place 24 fun k => (s.source k).readBytes
  else if table = 1 then place 32 s.programBytes
  else if table = 2 then .ok s.scheduleBytes
  else if table = 3 then place 512 fun e => entryBytes (s.entry e)
  else if table = 4 then .ok s.slotsBytes
  else if table = 5 then .ok s.hrs.filterBytes
  else if table = 6 then .ok s.hrs.strayBytes
  else if table = 7 then .ok s.trc.readBytes
  else if table = 8 then place 8 s.rackBytes
  else if table = 9 then .ok s.rlc.queueBytes
  else if table = 10 then .ok s.transactionBytes
  else if table = 11 then place 8 s.plannerBytes
  else .error .malformed

end Sys2Proof.Machine
end

