-- ==== Sys2Proof/Machine/Modes.lean ====
section
/-! DEFINITION. Hub modes and resets as the blocks take them (R15 to R17, R178 to R180), and the RESET_N
pin. -/

namespace Sys2Proof.Machine

/-! ## Hub mode (R178) -/

/-- Entry to NIGHT: every block takes its part (R15, R35, R59, R82, R122, R155). -/
def State.enterNight (s : State) : State :=
  let s := (s.onSli fun l => { l with mode := .night }).leaveAir .stopped
  let s := ((s.onSources Source.clearDynamic).setTap none).onAts Scheduler.clear
  s.clearTours.issueNight

/-- Entry to DAY: AP, which NIGHT left in STOPPED, goes to SYNCING (R15). -/
def State.enterDay (s : State) : State :=
  (s.onSli fun l => { l with mode := .day }).leaveAir .syncing

/-! ## AIR reset (R17, R37, R62, R84, R122, R179) -/

/-- AP's own part of an AIR reset, once it has left the air. -/
def AirPort.airReset (a : AirPort) : AirPort :=
  { a with
    airErrors := 0
    quietRun := 0
    micMarks := .fill 16 none
    reportMarks := .fill 4 none
    planRecord := none
    buffers := .fill 12 ⟨none, none⟩
    mapBuffer := ⟨none, none⟩ }

/-- The state AP enters at an AIR reset: SYNCING in DAY, STOPPED in NIGHT. -/
def HubMode.airTarget : HubMode → SyncState
  | .day => .syncing
  | .night => .stopped

/-- An AIR reset; the pending mark clears. -/
def State.airReset (s : State) : State :=
  let s := (s.leaveAir s.sli.mode.airTarget).onAp AirPort.airReset
  let s := ((s.onSources Source.airReset).onPrograms Program.airReset).setTap none
  (s.onAts Scheduler.airReset).clearTours.onSli fun l => { l with resetPending := none }

/-! ## FULL reset (R16, R36, R61, R83, R108, R122, R138, R156, R166, R180) -/

/-- Every block in its FULL reset state. What lies outside the part, and what AP has already sent, stays
(log 7, log 22). -/
def State.resetBlocks (s : State) : State :=
  { State.reset with
    ap := { AirPort.reset with adatOut := s.ap.adatOut }
    now := s.now
    choices := s.choices
    pending := s.pending }

/-- The poll timer first expires 100 ms after a reset (R138). -/
def State.startPolling (s : State) : State :=
  s.onRlc fun c => { c with pollTimer := some (s.now + 100 * Config.millisecond) }

/-- A FULL reset given by the RESET order: superframes end first where they run (R16, R179). -/
def State.fullReset (s : State) : State :=
  (if s.ap.onAir then s.endSuperframes else s).resetBlocks.startPolling

/-- The pending reset is applied (R179). -/
def State.applyReset (s : State) : ResetScope → State
  | .full => s.fullReset
  | .air => s.airReset

/-! ## RESET_N (R180) -/

/-- RESET_N_ASSERT: every block is held in its FULL reset state, with no CONTROL WORD (R16, R180). -/
def execResetNAssert (s : State) : Host.Outcome State Fault Refusal :=
  .next { s.resetBlocks.onRlc (fun c => { c with pollTimer := none }) with resetHeld := true }

/-- RESET_N_RELEASE: the blocks begin from their FULL reset state (R180). Nothing happens when RESET_N is
high (log 31). -/
def execResetNRelease (time : Time) (s : State) : Host.Outcome State Fault Refusal :=
  .next (if s.resetHeld then ({ s.reachTime time with resetHeld := false } : State).startPolling
    else s)

end Sys2Proof.Machine
end

