-- ==== Sys2Proof/Machine/Orders.lean ====
section
/-! DEFINITION. The order bodies (spec 10, "Orders and answers"): what each order checks, does and answers,
from its parameter bytes (spec 11). -/

namespace Sys2Proof.Machine

/-! ## Replies -/

/-- What an order brings about: the state after it, its answer code and the answer's data. -/
structure Reply where
  state : State
  code : AnswerCode
  data : List Byte

/-- The order changes nothing and carries no data. -/
def State.refuse (s : State) (code : AnswerCode) : Reply := ⟨s, code, []⟩

/-- The order is carried out. -/
def State.done (s : State) (data : List Byte) : Reply := ⟨s, .done, data⟩

/-- The order is carried out; `clamped` says that a quantity was brought into its range. -/
def State.stored (s : State) (clamped : Bool) : Reply :=
  ⟨s, if clamped then .doneClamped else .done, []⟩

/-! ## SET SOURCE (R18, R19) -/

/-- A stream's fields with the ENABLED the order carries: disabling and enabling act (R19). -/
def Source.setEnabled (e : Bool) (r : Source) : Source :=
  if r.enabled && !e then { r.disable with enabled := false }
  else if !r.enabled && e then
    { r with enabled := true, queue := [], stream := .priming, referenceSeq := none }
  else r

/-- SET SOURCE (R18). Idle detection is read as a flag, 1 on and 0 off (DESIGN CHOICE, log 44). -/
def setSourceOrder (params : List Byte) (s : State) : Reply :=
  match params with
  | [source, g1, g0, n1, n0, f1, f0, a, h, enabled, idle, p1, p0, m1, m0] =>
    match placeOf 24 source with
    | none => s.refuse .noEntry
    | some k =>
      let g := clampNat 0 4095 (quantity g1 g0)
      let on := clampNat 0 32767 (quantity n1 n0)
      let off := clampNat 0 on.1 (quantity f1 f0)
      let attack := clampNat 1 4 a.toNat
      let clamped := g.2 || on.2 || off.2 || attack.2
      let levels (r : Source) : Source :=
        { r with
          gain := g.1, onThreshold := on.1, offThreshold := off.1, attack := attack.1
          hang := h.toNat }
      if isStream k then
        match flagOf enabled, flagOf idle with
        | some e, some i =>
          (s.onSource k fun r =>
            ({ levels r with
              idleDetection := i, idlePattern := word16 p1 p0, idleMask := word16 m1 m0 }
              : Source).setEnabled e).stored clamped
        | _, _ => s.refuse .malformed
      else (s.onSource k levels).stored clamped
  | _ => s.refuse .malformed

/-! ## SET PROGRAM and SET MIX (R39 to R42) -/

/-- Another program's record has ALL-CALL set. -/
def State.allCallElsewhere (s : State) (p : Fin 32) : Bool :=
  (s.programs.places Program.allCall).any fun q => q != p

/-- SET PROGRAM (R39, R40). -/
def setProgramOrder (params : List Byte) (s : State) : Reply :=
  match params with
  | [program, tour, c0, c1, c2, c3, tier, allCall, holdOpen, test, d1, d0, a1, a0, h] =>
    match placeOf 32 program, placeOf 16 tour with
    | some p, some t =>
      match flagOf allCall, flagOf holdOpen, flagOf test with
      | some ac, some ho, some te =>
        if !(printable c0 && printable c1 && printable c2 && printable c3) then s.refuse .malformed
        else if (s.program p).isOpen && (s.program p).tour ≠ t then s.refuse .refused
        else if ac && s.allCallElsewhere p then s.refuse .refused
        else
          let tier := clampNat 0 3 tier.toNat
          let duck := clampNat 0 1024 (quantity d1 d0)
          let amplitude := clampNat 0 32767 (quantity a1 a0)
          let half := clampNat 1 80 h.toNat
          (s.onProgram p fun r =>
            { r with
              tour := t, label := ⟨c0, c1, c2, c3⟩, tier := tier.1, allCall := ac, holdOpen := ho
              test := te, duckGain := duck.1, testAmplitude := amplitude.1
              testHalfPeriod := half.1
              patternPhase :=
                if (te && !r.test) || half.1 ≠ r.testHalfPeriod then 0 else r.patternPhase }).stored
            (tier.2 || duck.2 || amplitude.2 || half.2)
      | _, _, _ => s.refuse .malformed
    | _, _ => s.refuse .noEntry
  | _ => s.refuse .malformed

/-- The entries of a SET MIX order, with whether each one's numbers were brought into range; none when a
source lies outside 0 to 23. -/
def mixEntriesOf : List Byte → Option (List (MixEntry × Bool))
  | source :: m1 :: m0 :: c :: rest =>
    match placeOf 24 source, mixEntriesOf rest with
    | some k, some entries =>
      let m := clampNat 0 4095 (quantity m1 m0)
      let cl := clampNat 0 3 c.toNat
      some ((⟨k, m.1, cl.1⟩, m.2 || cl.2) :: entries)
    | _, _ => none
  | _ => some []

/-- SET MIX (R41). -/
def setMixOrder (params : List Byte) (s : State) : Reply :=
  match params with
  | program :: count :: rest =>
    if rest.length ≠ 4 * count.toNat then s.refuse .malformed
    else match placeOf 32 program, mixEntriesOf rest with
      | some p, some entries =>
        if 4 < entries.length then s.refuse .malformed
        else (s.onProgram p fun r => { r with mixList := entries.map Prod.fst }).stored
          (entries.any Prod.snd)
      | _, _ => s.refuse .noEntry
  | _ => s.refuse .malformed

/-! ## TAP (R55) -/

/-- The tap a TAP order sets, or a refusal, once its mode is known not to be OFF. -/
def State.setTapOrder (s : State) (program : Byte) (mode : TapMode) (clamped : Bool) : Reply :=
  match placeOf 32 program with
  | none => s.refuse .noEntry
  | some p =>
    if s.sli.mode = .night || !(s.program p).isOpen then s.refuse .refused
    else (s.setTap (some ⟨p, mode⟩)).stored clamped

/-- TAP (R55). -/
def tapOrder (params : List Byte) (s : State) : Reply :=
  match params with
  | [program, mode, period] =>
    if mode = 0 then (s.setTap none).done []
    else if mode = 1 then s.setTapOrder program .levelsOnce false
    else if mode = 2 then
      let n := clampNat 1 255 period.toNat
      s.setTapOrder program (.levelsEvery n.1) n.2
    else if mode = 3 then s.setTapOrder program .audio false
    else s.refuse .malformed
  | _ => s.refuse .malformed

/-! ## OPEN, CLOSE and RECALL (R109 to R112, R118) -/

/-- OPEN (R109). -/
def openOrder (params : List Byte) (s : State) : Reply :=
  match params with
  | [program] =>
    match placeOf 32 program with
    | none => s.refuse .noEntry
    | some p => (if (s.program p).isOpen then s else s.onProgram p Program.afterOpen).done []
  | _ => s.refuse .malformed

/-- An OPEN program is closed in one event (R110). -/
def State.closeProgram (s : State) (p : Fin 32) : State :=
  let s := s.onProgram p fun r => { r with isOpen := false }
  let s := ((s.onAts (Scheduler.close p)).endTapOn p).recallReceivers p
  (List.finRange 4).foldl (State.closeTransaction p) s

/-- CLOSE (R110). -/
def closeOrder (params : List Byte) (s : State) : Reply :=
  match params with
  | [program] =>
    match placeOf 32 program with
    | none => s.refuse .noEntry
    | some p =>
      if (s.program p).isOpen then
        (s.closeProgram p).done (wideBytes (s.listenersOf p).length ++ byteBytes (s.closeCount p))
      else s.done (wideBytes 0 ++ byteBytes 0)
  | _ => s.refuse .malformed

/-- RECALL (R118). -/
def recallOrder (params : List Byte) (s : State) : Reply :=
  match params with
  | [tour] =>
    match placeOf 16 tour with
    | none => s.refuse .noEntry
    | some t =>
      if s.sli.mode = .night then s.refuse .refused
      else match s.raiseRecall t .order none with
        | (s', some taken) => s'.done taken.code
        | (_, none) => s.refuse .busy
  | _ => s.refuse .malformed

/-! ## The admission filter (R96) -/

/-- SET FILTER (R96). -/
def setFilterOrder (params : List Byte) (s : State) : Reply :=
  match params with
  | [entry, used, p2, p1, p0, m2, m1, m0, kind] =>
    match placeOf 8 entry with
    | none => s.refuse .noEntry
    | some e =>
      match flagOf used, filterKindOf kind with
      | some u, some k =>
        (s.onHrs fun h =>
          { h with
            filter := h.filter.set e ⟨u, word24 p2 p1 p0, word24 m2 m1 m0, k⟩
            filterValid := false }).done []
      | _, _ => s.refuse .malformed
  | _ => s.refuse .malformed

/-- VALIDATE FILTER (R96). -/
def validateFilterOrder (params : List Byte) (s : State) : Reply :=
  match params with
  | [] => (s.onHrs fun h => { h with filterValid := true }).done []
  | _ => s.refuse .malformed

/-! ## ENROL, ASSIGN, BIND and FORGET (R102 to R105) -/

/-- ENROL (R102). -/
def enrolOrder (params : List Byte) (s : State) : Reply :=
  match params with
  | [i2, i1, i0, kind] =>
    match kindOf kind with
    | none => s.refuse .malformed
    | some k =>
      let id := word24 i2 i1 i0
      if id = 0 then s.refuse .malformed
      else if (s.findEntry id).isSome then s.refuse .refused
      else match s.emptyEntry with
        | none => s.refuse .busy
        | some e => (s.enterRoster e ⟨id, k, .loose, 0, false, none, none⟩).done (wideBytes e.val)
  | _ => s.refuse .malformed

/-- The entry of a handset ID with its number. -/
def State.lookUp (s : State) (id : HandsetId) : Option (Fin 512 × RosterEntry) :=
  (s.findEntry id).bind fun e => (s.entry e).map fun x => (e, x)

/-- An entry may be placed on a program by ASSIGN: LOOSE or RECALLED. -/
def EntryState.assignable : EntryState → Bool
  | .loose => true
  | .recalled => true
  | .docked .. => false
  | .issued .. => false
  | .missing _ => false

/-- An entry enters ISSUED by ASSIGN or BIND (R87, R89, R98, R100). -/
def State.issueEntry (s : State) (e : Fin 512) (x : RosterEntry) (work : Assignment) : State :=
  (s.setEntry e (some (x.issueNew work s.hrs.missTimeout))).beginWork e work

/-- ASSIGN (R103). -/
def assignOrder (params : List Byte) (s : State) : Reply :=
  match params with
  | [i2, i1, i0, program] =>
    match placeOf 32 program, s.lookUp (word24 i2 i1 i0) with
    | some p, some (e, x) =>
      if x.kind = .mic then s.refuse .refused
      else if !x.state.assignable then s.refuse .refused
      else if !(s.program p).isOpen then s.refuse .refused
      else
        ((s.issueEntry e x (.listener p (s.program p).tour)).onAts
          (Scheduler.queueRetune ⟨x.id, p⟩)).done []
    | _, _ => s.refuse .noEntry
  | _ => s.refuse .malformed

/-- What the slot choice of a BIND order names. -/
inductive SlotChoice where
  | slot (k : Fin 16)
  | any
deriving DecidableEq, Repr

/-- A slot choice: U0 to U15, or ANY. -/
def slotChoiceOf (b : Byte) : Option SlotChoice :=
  match placeOf 16 b with
  | some k => some (.slot k)
  | none => if b = 0xFF then some .any else none

/-- The slot a BIND order takes, or the code that refuses it. -/
def State.chooseSlot (s : State) : SlotChoice → Except AnswerCode (Fin 16)
  | .slot k => if s.hrs.slots.get k = .free then .ok k else .error .busy
  | .any =>
    match s.freeSlot with
    | some k => .ok k
    | none => .error .noSlot

/-- BIND (R104). -/
def bindOrder (params : List Byte) (s : State) : Reply :=
  match params with
  | [i2, i1, i0, tour, choice] =>
    match slotChoiceOf choice with
    | none => s.refuse .malformed
    | some c =>
      match placeOf 16 tour, s.lookUp (word24 i2 i1 i0) with
      | some t, some (e, x) =>
        if x.kind = .receiver || x.state ≠ .loose then s.refuse .refused
        else match s.chooseSlot c with
          | .error code => s.refuse code
          | .ok k => (s.issueEntry e x (.speaker t k)).done (placeBytes k)
      | _, _ => s.refuse .noEntry
  | _ => s.refuse .malformed

/-- An entry DOCKED at a rack that is ONLINE. -/
def State.restsOnline (s : State) (x : RosterEntry) : Bool :=
  match x.state with
  | .docked r _ => (s.rack r).link = .online
  | _ => false

/-- An entry's handset is removed from the roster (R105). -/
def State.forgetEntry (s : State) (e : Fin 512) (x : RosterEntry) : State :=
  let s := match x.state.work with
    | some w => s.endWork w
    | none => s
  (s.onAts (Scheduler.forgetRetune x.id)).setEntry e none

/-- FORGET (R105). -/
def forgetOrder (params : List Byte) (s : State) : Reply :=
  match params with
  | [i2, i1, i0] =>
    match s.lookUp (word24 i2 i1 i0) with
    | none => s.refuse .noEntry
    | some (e, x) =>
      if s.restsOnline x || (s.transactionOf x.id).isSome then s.refuse .refused
      else (s.forgetEntry e x).done []
  | _ => s.refuse .malformed

/-! ## SET RACK (R123, R124, R161) -/

/-- A number that names a place, or 0xFF for none; the outer none when it is neither. -/
def optPlaceOf (n : Nat) (b : Byte) : Option (Option (Fin n)) :=
  if b = 0xFF then some none else (placeOf n b).map some

/-- The users of a rack's configuration after SET RACK changed it from `old` (R124, R161, log 13). -/
def State.rackChanged (s : State) (r : Fin 8) (old : Rack) : State :=
  if old.present && !(s.rack r).present then s.leaveService r
  else if !old.present && (s.rack r).present then s.enterService r
  else s.chargeSettings r old

/-- SET RACK (R123). -/
def setRackOrder (params : List Byte) (s : State) : Reply :=
  match params with
  | [rack, present, b1, b0, program, kind, issue, warm, hot] =>
    match placeOf 8 rack, optPlaceOf 32 program with
    | some r, some dp =>
      match flagOf present, kindOf kind with
      | some pr, some dk =>
        let budget := clampNat 0 8000 (quantity b1 b0)
        let threshold := clampNat 0 100 issue.toNat
        let w := clampInt 0 100 warm.toInt
        let h := clampInt w.1 100 hot.toInt
        ((s.onRack r fun k =>
          { k with
            present := pr, budget := budget.1, defaultProgram := dp, defaultKind := dk
            issueThreshold := threshold.1, warmThreshold := w.1, hotThreshold := h.1 }).rackChanged
          r (s.rack r)).stored (budget.2 || threshold.2 || w.2 || h.2)
      | _, _ => s.refuse .malformed
    | _, _ => s.refuse .noEntry
  | _ => s.refuse .malformed

/-! ## ISSUE and CANCEL (R143 to R145, R150) -/

/-- What an ISSUE order is for. -/
def targetOf (kind : HandsetKind) (number : Byte) : Option IssueTarget :=
  match kind with
  | .receiver => (placeOf 32 number).map .program
  | .mic => (placeOf 16 number).map .tour

/-- The target's program is CLOSED. -/
def State.targetClosed (s : State) : IssueTarget → Bool
  | .program p => !(s.program p).isOpen
  | .tour _ => false

/-- The REFUSED checks of R143. -/
def State.issueBarred (s : State) (r : Fin 8) (target : IssueTarget) (take : Bool) : Bool :=
  s.sli.mode = .night || !(s.rack r).present || (s.rack r).link ≠ .online ||
    s.targetClosed target || (take && (s.ise.takeRequests.get r).isNone)

/-- The data of an ACCEPTED answer for the transaction at place `i`. -/
def State.acceptedBytes (s : State) (i : Fin 4) : List Byte :=
  match s.transaction i with
  | some t =>
    placeBytes i ++ placeBytes t.rack ++ placeBytes t.bay ++ idBytes t.id ++ [t.imageTag] ++
      optPlaceBytes t.work.slot
  | none => []

/-- A valid ISSUE order, from the REFUSED checks on (R143). -/
def State.issueHandset (s : State) (tag : Byte) (r : Fin 8) (target : IssueTarget)
    (bay : Option (Fin 24)) (take : Bool) : Reply :=
  if s.issueBarred r target take then s.refuse .refused
  else match s.placeFor r with
    | none => s.refuse .busy
    | some i =>
      match s.select i r target bay (.order tag) with
      | .error .noHandset => s.refuse .noHandset
      | .error .noSlot => s.refuse .noSlot
      | .ok s' =>
        ⟨if take then s'.setTakeRequest r none else s', .accepted, s'.acceptedBytes i⟩

/-- ISSUE (R143). -/
def issueOrder (tag : Byte) (params : List Byte) (s : State) : Reply :=
  match params with
  | [rack, kind, number, bay, take] =>
    match kindOf kind, flagOf take with
    | some k, some tk =>
      match placeOf 8 rack, optPlaceOf 24 bay, targetOf k number with
      | some r, some b, some target => s.issueHandset tag r target b tk
      | _, _, _ => s.refuse .noEntry
    | _, _ => s.refuse .malformed
  | _ => s.refuse .malformed

/-- CANCEL (R150). -/
def cancelOrder (params : List Byte) (s : State) : Reply :=
  match params with
  | [rack] =>
    match placeOf 8 rack with
    | none => s.refuse .noEntry
    | some r =>
      match s.transactionOn r with
      | none => s.refuse .refused
      | some i =>
        if (s.transaction i).any fun t => t.state == .takeWait then s.refuse .refused
        else (s.endTransaction i .cancelled none).done (placeBytes i)
  | _ => s.refuse .malformed

/-! ## Management orders (R171, R172, R175, R176, R178, R179) -/

/-- READ (R171). -/
def readOrder (params : List Byte) (s : State) : Reply :=
  match params with
  | [table, i1, i0] =>
    match s.readTable table (quantity i1 i0) with
    | .ok data => s.done data
    | .error code => s.refuse code
  | _ => s.refuse .malformed

/-- SET TIMING (R80, R88, R172). Auto-enrol is read as a flag, 1 on and 0 off (DESIGN CHOICE, log 44). -/
def setTimingOrder (params : List Byte) (s : State) : Reply :=
  match params with
  | [r1, r0, w1, w0, m1, m0, auto] =>
    match flagOf auto with
    | none => s.refuse .malformed
    | some a =>
      let r := clampNat 0 255 (quantity r1 r0)
      let w := clampNat 10 6000 (quantity w1 w0)
      let m := clampNat 100 60000 (quantity m1 m0)
      ((s.onAts fun t => { t with releaseDelay := r.1, longWaitLimit := w.1 }).onHrs fun h =>
        { h with missTimeout := m.1, autoEnrol := a }).stored (r.2 || w.2 || m.2)
  | _ => s.refuse .malformed

/-- The mask a MASK order carries; none when an entry is neither MASKED nor UNMASKED. -/
def maskOf (params : List Byte) : Option (Table 23 Bool) :=
  if params.all fun b => (flagOf b).isSome then
    some (.build 23 fun i => byteAt params i.val = 1)
  else none

/-- MASK (R175). -/
def maskOrder (params : List Byte) (s : State) : Reply :=
  if params.length ≠ 23 then s.refuse .malformed
  else match maskOf params with
    | none => s.refuse .malformed
    | some m => (s.replaceMask m).done []

/-- STATUS (R176). -/
def statusOrder (params : List Byte) (s : State) : Reply :=
  match params with
  | [] => s.clearNoticesLost.done s.statusBytes
  | _ => s.refuse .malformed

/-- DAY (R178). -/
def dayOrder (params : List Byte) (s : State) : Reply :=
  match params with
  | [] => (if s.sli.mode = .night then s.enterDay else s).done []
  | _ => s.refuse .malformed

/-- NIGHT (R178). -/
def nightOrder (params : List Byte) (s : State) : Reply :=
  match params with
  | [] => (if s.sli.mode = .day then s.enterNight else s).done []
  | _ => s.refuse .malformed

/-- A reset scope. -/
def scopeOf (b : Byte) : Option ResetScope :=
  if b = 0 then some .full else if b = 1 then some .air else none

/-- RESET: the reset becomes pending with its scope (R179). -/
def resetOrder (params : List Byte) (s : State) : Reply :=
  match params with
  | [scope] =>
    match scopeOf scope with
    | none => s.refuse .malformed
    | some c => (s.onSli fun l => { l with resetPending := some c }).done []
  | _ => s.refuse .malformed

/-! ## Order codes (spec 11) -/

/-- The order with a code, where the code is one of the defined ones. -/
def orderWithCode (code tag : Byte) : Option (List Byte → State → Reply) :=
  if code = 0x01 then some setSourceOrder
  else if code = 0x02 then some setProgramOrder
  else if code = 0x03 then some setMixOrder
  else if code = 0x04 then some tapOrder
  else if code = 0x05 then some openOrder
  else if code = 0x06 then some closeOrder
  else if code = 0x07 then some recallOrder
  else if code = 0x08 then some setFilterOrder
  else if code = 0x09 then some validateFilterOrder
  else if code = 0x0A then some enrolOrder
  else if code = 0x0B then some assignOrder
  else if code = 0x0C then some bindOrder
  else if code = 0x0D then some forgetOrder
  else if code = 0x0E then some setRackOrder
  else if code = 0x0F then some (issueOrder tag)
  else if code = 0x10 then some cancelOrder
  else if code = 0x11 then some readOrder
  else if code = 0x12 then some setTimingOrder
  else if code = 0x13 then some maskOrder
  else if code = 0x14 then some statusOrder
  else if code = 0x15 then some dayOrder
  else if code = 0x16 then some nightOrder
  else if code = 0x17 then some resetOrder
  else none

/-- The order body of any code; an unknown one is MALFORMED (R170). -/
def orderOf (code tag : Byte) (params : List Byte) (s : State) : Reply :=
  match orderWithCode code tag with
  | some f => f params s
  | none => s.refuse .malformed

end Sys2Proof.Machine
end

