-- ==== Sys2Proof/Machine/SiteLink.lean ====
section
/-! DEFINITION. The site link (spec 10): good frames and the silence timer, order taking, FEED frames,
discarded frames, the end of a transmitted frame, and one meaning for every order command. -/

namespace Sys2Proof.Machine

/-! ## Frames on the site link (R168, R177) -/

/-- A frame of the site link is discarded by the framing rules. -/
def State.siteFrameError (s : State) : State :=
  s.onSli fun l => { l with siteFrameErrors := bump l.siteFrameErrors }

/-- A new start byte abandons a frame partly received (R168). -/
def State.abandonSiteFrame (s : State) : State :=
  match s.sli.receive with
  | .hunt => s
  | .inFrame _ _ => s.siteFrameError.onSli fun l => { l with receive := .hunt }

/-- A good frame makes the link LINKED and starts the silence timer afresh (R177). -/
def State.hearSite (s : State) : State :=
  s.onSli fun l =>
    { l with link := .linked, silenceTimer := some (s.now + 3000 * Config.millisecond) }

/-! ## Order taking (R170) -/

/-- An ORDER frame is not taken: sixteen answers wait, or a reset is pending. -/
def SiteLink.overrun (l : SiteLink) : Bool := 16 ≤ l.answers.length || l.resetPending.isSome

/-- The answer of an order joins the answer queue. -/
def Reply.queued (r : Reply) (tag : Byte) : State :=
  r.state.onSli fun l => { l with answers := l.answers ++ [⟨tag, r.code, r.data⟩] }

/-- A good ORDER frame, with the order body its code names (R170). -/
def State.takeOrder (s : State) (tag : Byte) (body : State → Reply) : State :=
  if s.sli.overrun then s.onSli fun l => { l with orderOverruns := bump l.orderOverruns }
  else (body s).queued tag

/-- An ORDER frame arrives whole: one whose length the link does not take is discarded (R168). -/
def State.arriveOrder (s : State) (tag : Byte) (params : List Byte) (body : State → Reply) : State :=
  let s := s.abandonSiteFrame
  if params.length + 2 ≤ payloadLimit .site then s.hearSite.takeOrder tag body
  else s.siteFrameError

/-! ## FEED frames (R30) -/

/-- A FEED for a stream is taken in DAY while the stream is ENABLED. -/
def State.feedStream (s : State) (k : Fin 24) (b : FeedBlock) : State :=
  if s.sli.mode = .day && (s.source k).enabled then s.onSource k (Source.takeFeed b) else s

/-- A good FEED frame's payload: the stream, the sequence number, the samples (R30). -/
def State.takeFeedPayload (s : State) (payload : List Byte) : State :=
  match payload with
  | stream :: s1 :: s0 :: samples =>
    match streamOf stream with
    | some k => s.feedStream k ⟨word16 s1 s0, samplesOf samples⟩
    | none => s.siteFrameError
  | _ => s.siteFrameError

/-- A FEED frame arrives whole: one of another length than 323 is discarded (spec 11). -/
def State.arriveFeed (s : State) (payload : List Byte) : State :=
  let s := s.abandonSiteFrame
  if kindAllows .site 0x01 payload.length then s.hearSite.takeFeedPayload payload
  else s.siteFrameError

/-- FEED_FRAME: a FEED frame arrives (R30). -/
def execFeedFrame (time : Time) (payload : List Byte) (s : State) :
    Host.Outcome State Fault Refusal :=
  complete s fun s => (s.reachTime time).arriveFeed payload

/-! ## Bytes on a link (R168) -/

/-- A good frame completed on the site link. -/
def State.takeGoodSiteFrame (s : State) (kind : Byte) (payload : List Byte) : State :=
  if kind = 0x01 then s.hearSite.takeFeedPayload payload
  else match payload with
    | tag :: code :: params => s.hearSite.takeOrder tag (orderOf code tag params)
    | _ => s.siteFrameError

/-- One byte arrives on the site link. A good frame it completes is an event of its own, at whose end SLI starts the
next frame (R169). -/
def State.siteByte (s : State) (b : Byte) : State :=
  let out := receiveByte .site s.sli.receive b
  let s := s.onSli fun l => { l with receive := out.1 }
  match out.2 with
  | .nothing => s
  | .discarded => s.siteFrameError
  | .good kind payload => (s.takeGoodSiteFrame kind payload).startTransmission

/-- One byte arrives on the rack link. A good frame it completes is an event of its own, as on the site link. -/
def State.rackByte (s : State) (b : Byte) : State :=
  let out := receiveByte .rack s.rlc.receive b
  let s := s.onRlc fun c => { c with receive := out.1 }
  match out.2 with
  | .nothing => s
  | .discarded => s.rackFrameError
  | .good kind payload => (s.takeGoodRackFrame kind payload).startTransmission

/-- Bytes arrive on a link, in order. -/
def State.takeLine (s : State) (link : Link) (line : List Byte) : State :=
  match link with
  | .site => line.foldl State.siteByte s
  | .rack => line.foldl State.rackByte s

/-- DISCARDED_FRAME: bytes arrive on a link, and the receiver discards what the framing rules discard
(R168, log 29). -/
def execDiscardedFrame (time : Time) (link : Link) (line : List Byte) (s : State) :
    Host.Outcome State Fault Refusal :=
  complete s fun s => (s.reachTime time).takeLine link line

/-! ## The silence timer (R177) -/

/-- Entry to STANDALONE: the tap goes off and take requests fall back (R59, R153). -/
def State.enterStandalone (s : State) : State :=
  ((s.onSli fun l => { l with link := .standalone, silenceTimer := none }).setTap none)
    |>.standaloneFallback

/-- SILENCE_TIMER_EXPIRY: the link becomes STANDALONE (R177). Nothing happens when the timer is stopped
(log 31). -/
def execSilenceTimerExpiry (s : State) : Host.Outcome State Fault Refusal :=
  complete s fun s =>
    match s.sli.silenceTimer with
    | some due => (s.reachTime due).enterStandalone
    | none => s

/-! ## The end of a frame in transmission (R169, R179) -/

/-- A frame is an ANSWER. -/
def OutFrame.isAnswer : OutFrame → Bool
  | .answer _ => true
  | .notice _ => false
  | .tapout _ => false

/-- The frame that ended was the RESET answer: an ANSWER, with a reset pending and no answer left behind it
(R179, log 32). -/
def SiteLink.resetAnswered (f : OutFrame) (l : SiteLink) : Option ResetScope :=
  if f.isAnswer && l.answers.isEmpty then l.resetPending else none

/-- The last byte of frame `f` has been sent (R169, R179). -/
def State.endFrame (s : State) (f : OutFrame) : State :=
  let s := s.onSli fun l => { l with transmitting := none }
  match s.sli.resetAnswered f with
  | some scope => s.applyReset scope
  | none => s

/-- FRAME_SENT: the frame in transmission ends, and the next one starts (R169). Nothing happens when none
is in transmission (log 31). -/
def execFrameSent (time : Time) (s : State) : Host.Outcome State Fault Refusal :=
  complete s fun s =>
    let s := s.reachTime time
    match s.sli.transmitting with
    | some f => s.endFrame f
    | none => s

/-! ## The orders -/

/-- An ORDER frame with a tag and parameters, whose code names `body`, arrives at `time`. -/
def orderCommand (time : Time) (tag : Byte) (params : List Byte) (body : List Byte → State → Reply)
    (s : State) : Host.Outcome State Fault Refusal :=
  complete s fun s => (s.reachTime time).arriveOrder tag params (body params)

/-- SET_SOURCE (R18). -/
def execSetSource (time : Time) (tag : Byte) (params : List Byte) (s : State) :
    Host.Outcome State Fault Refusal :=
  orderCommand time tag params setSourceOrder s

/-- SET_PROGRAM (R39). -/
def execSetProgram (time : Time) (tag : Byte) (params : List Byte) (s : State) :
    Host.Outcome State Fault Refusal :=
  orderCommand time tag params setProgramOrder s

/-- SET_MIX (R41). -/
def execSetMix (time : Time) (tag : Byte) (params : List Byte) (s : State) :
    Host.Outcome State Fault Refusal :=
  orderCommand time tag params setMixOrder s

/-- TAP (R55). -/
def execTap (time : Time) (tag : Byte) (params : List Byte) (s : State) :
    Host.Outcome State Fault Refusal :=
  orderCommand time tag params tapOrder s

/-- OPEN (R109). -/
def execOpenProgram (time : Time) (tag : Byte) (params : List Byte) (s : State) :
    Host.Outcome State Fault Refusal :=
  orderCommand time tag params openOrder s

/-- CLOSE (R110). -/
def execCloseProgram (time : Time) (tag : Byte) (params : List Byte) (s : State) :
    Host.Outcome State Fault Refusal :=
  orderCommand time tag params closeOrder s

/-- RECALL (R118). -/
def execRecall (time : Time) (tag : Byte) (params : List Byte) (s : State) :
    Host.Outcome State Fault Refusal :=
  orderCommand time tag params recallOrder s

/-- SET_FILTER (R96). -/
def execSetFilter (time : Time) (tag : Byte) (params : List Byte) (s : State) :
    Host.Outcome State Fault Refusal :=
  orderCommand time tag params setFilterOrder s

/-- VALIDATE_FILTER (R96). -/
def execValidateFilter (time : Time) (tag : Byte) (params : List Byte) (s : State) :
    Host.Outcome State Fault Refusal :=
  orderCommand time tag params validateFilterOrder s

/-- ENROL (R102). -/
def execEnrol (time : Time) (tag : Byte) (params : List Byte) (s : State) :
    Host.Outcome State Fault Refusal :=
  orderCommand time tag params enrolOrder s

/-- ASSIGN (R103). -/
def execAssign (time : Time) (tag : Byte) (params : List Byte) (s : State) :
    Host.Outcome State Fault Refusal :=
  orderCommand time tag params assignOrder s

/-- BIND (R104). -/
def execBind (time : Time) (tag : Byte) (params : List Byte) (s : State) :
    Host.Outcome State Fault Refusal :=
  orderCommand time tag params bindOrder s

/-- FORGET (R105). -/
def execForget (time : Time) (tag : Byte) (params : List Byte) (s : State) :
    Host.Outcome State Fault Refusal :=
  orderCommand time tag params forgetOrder s

/-- SET_RACK (R123). -/
def execSetRack (time : Time) (tag : Byte) (params : List Byte) (s : State) :
    Host.Outcome State Fault Refusal :=
  orderCommand time tag params setRackOrder s

/-- ISSUE (R143). -/
def execIssue (time : Time) (tag : Byte) (params : List Byte) (s : State) :
    Host.Outcome State Fault Refusal :=
  orderCommand time tag params (issueOrder tag) s

/-- CANCEL (R150). -/
def execCancel (time : Time) (tag : Byte) (params : List Byte) (s : State) :
    Host.Outcome State Fault Refusal :=
  orderCommand time tag params cancelOrder s

/-- READ (R171). -/
def execRead (time : Time) (tag : Byte) (params : List Byte) (s : State) :
    Host.Outcome State Fault Refusal :=
  orderCommand time tag params readOrder s

/-- SET_TIMING (R172). -/
def execSetTiming (time : Time) (tag : Byte) (params : List Byte) (s : State) :
    Host.Outcome State Fault Refusal :=
  orderCommand time tag params setTimingOrder s

/-- MASK (R175). -/
def execMask (time : Time) (tag : Byte) (params : List Byte) (s : State) :
    Host.Outcome State Fault Refusal :=
  orderCommand time tag params maskOrder s

/-- STATUS (R176). -/
def execStatus (time : Time) (tag : Byte) (params : List Byte) (s : State) :
    Host.Outcome State Fault Refusal :=
  orderCommand time tag params statusOrder s

/-- DAY (R178). -/
def execDay (time : Time) (tag : Byte) (params : List Byte) (s : State) :
    Host.Outcome State Fault Refusal :=
  orderCommand time tag params dayOrder s

/-- NIGHT (R178). -/
def execNight (time : Time) (tag : Byte) (params : List Byte) (s : State) :
    Host.Outcome State Fault Refusal :=
  orderCommand time tag params nightOrder s

/-- RESET (R179). -/
def execReset (time : Time) (tag : Byte) (params : List Byte) (s : State) :
    Host.Outcome State Fault Refusal :=
  orderCommand time tag params resetOrder s

/-- UNKNOWN_ORDER_CODE: an ORDER frame of any code; a code that is none of the defined ones is answered
MALFORMED (R170). -/
def execUnknownOrderCode (time : Time) (tag code : Byte) (params : List Byte) (s : State) :
    Host.Outcome State Fault Refusal :=
  orderCommand time tag params (orderOf code tag) s

end Sys2Proof.Machine
end

