-- ==== Sys2Proof/Machine/Dispatch.lean ====
section
/-! DEFINITION. One arm per command: its meaning. -/

namespace Sys2Proof.Machine

/-- A command's effect on everything but the queue of commands. -/
def exec (i : Instr) (s : State) : Host.Outcome State Fault Refusal :=
  match i with
  | .superframeStrobe time => Sys2Proof.Machine.execSuperframeStrobe time s
  | .windowExpiry => Sys2Proof.Machine.execWindowExpiry s
  | .uplinkArrival transfer => Sys2Proof.Machine.execUplinkArrival transfer s
  | .micHeard slot => Sys2Proof.Machine.execMicHeard slot s
  | .fetch slotCode m => Sys2Proof.Machine.execFetch slotCode m s
  | .mapFetch m => Sys2Proof.Machine.execMapFetch m s
  | .placement buffer => Sys2Proof.Machine.execPlacement buffer s
  | .feedFrame time payload => Sys2Proof.Machine.execFeedFrame time payload s
  | .missCountdownExpiry entry => Sys2Proof.Machine.execMissCountdownExpiry entry s
  | .recallCountdownExpiry tour => Sys2Proof.Machine.execRecallCountdownExpiry tour s
  | .mixRequestSet => Sys2Proof.Machine.execMixRequestSet s
  | .pollTimerExpiry => Sys2Proof.Machine.execPollTimerExpiry s
  | .requestSent time => Sys2Proof.Machine.execRequestSent time s
  | .bayStatus time payload => Sys2Proof.Machine.execBayStatus time payload s
  | .chargeAck time payload => Sys2Proof.Machine.execChargeAck time payload s
  | .imageAck time payload => Sys2Proof.Machine.execImageAck time payload s
  | .releaseAck time payload => Sys2Proof.Machine.execReleaseAck time payload s
  | .strayReply time kind payload => Sys2Proof.Machine.execStrayReply time kind payload s
  | .replyTimeout => Sys2Proof.Machine.execReplyTimeout s
  | .imagingTimerExpiry tx => Sys2Proof.Machine.execImagingTimerExpiry tx s
  | .takeWaitTimerExpiry tx => Sys2Proof.Machine.execTakeWaitTimerExpiry tx s
  | .reactionTimerExpiry rack => Sys2Proof.Machine.execReactionTimerExpiry rack s
  | .discardedFrame time link line => Sys2Proof.Machine.execDiscardedFrame time link line s
  | .silenceTimerExpiry => Sys2Proof.Machine.execSilenceTimerExpiry s
  | .frameSent time => Sys2Proof.Machine.execFrameSent time s
  | .setSource time tag params => Sys2Proof.Machine.execSetSource time tag params s
  | .setProgram time tag params => Sys2Proof.Machine.execSetProgram time tag params s
  | .setMix time tag params => Sys2Proof.Machine.execSetMix time tag params s
  | .tap time tag params => Sys2Proof.Machine.execTap time tag params s
  | .openProgram time tag params => Sys2Proof.Machine.execOpenProgram time tag params s
  | .closeProgram time tag params => Sys2Proof.Machine.execCloseProgram time tag params s
  | .recall time tag params => Sys2Proof.Machine.execRecall time tag params s
  | .setFilter time tag params => Sys2Proof.Machine.execSetFilter time tag params s
  | .validateFilter time tag params => Sys2Proof.Machine.execValidateFilter time tag params s
  | .enrol time tag params => Sys2Proof.Machine.execEnrol time tag params s
  | .assign time tag params => Sys2Proof.Machine.execAssign time tag params s
  | .bind time tag params => Sys2Proof.Machine.execBind time tag params s
  | .forget time tag params => Sys2Proof.Machine.execForget time tag params s
  | .setRack time tag params => Sys2Proof.Machine.execSetRack time tag params s
  | .issue time tag params => Sys2Proof.Machine.execIssue time tag params s
  | .cancel time tag params => Sys2Proof.Machine.execCancel time tag params s
  | .read time tag params => Sys2Proof.Machine.execRead time tag params s
  | .setTiming time tag params => Sys2Proof.Machine.execSetTiming time tag params s
  | .mask time tag params => Sys2Proof.Machine.execMask time tag params s
  | .status time tag params => Sys2Proof.Machine.execStatus time tag params s
  | .day time tag params => Sys2Proof.Machine.execDay time tag params s
  | .night time tag params => Sys2Proof.Machine.execNight time tag params s
  | .reset time tag params => Sys2Proof.Machine.execReset time tag params s
  | .resetNAssert => Sys2Proof.Machine.execResetNAssert s
  | .resetNRelease time => Sys2Proof.Machine.execResetNRelease time s
  | .unknownOrderCode time tag code params => Sys2Proof.Machine.execUnknownOrderCode time tag code params s

end Sys2Proof.Machine
end

