-- ==== Sys2Proof/WellFormed.lean ====
section
/-! DEFINITION. Which terms spell a command as spec/opcode_table.json and spec 11 mean it: transfers and
frames of the lengths their layouts give, and codes of the sort the row is about. `exec` gives every term a
meaning, the ill-formed ones too (R168, R182). -/

namespace Sys2Proof

/-- The length of an uplink arrival's header (R182). -/
def headerLength : Nat := 4

/-- The length of a FEED frame's payload (spec 11). -/
def feedLength : Nat := 323

/-- The payload length of a reply kind on the rack link; none for another kind (spec 11). -/
def replyLength (kind : Byte) : Option Nat :=
  if kind = 0x91 then some 243 else if kind = 0x92 then some 25
  else if kind = 0x93 then some 3 else if kind = 0x94 then some 2 else none

/-- An ORDER frame's parameters fit the payload limit of 340 bytes with the tag and the code (R167). -/
def paramsFit (params : List Byte) : Bool := params.length + 2 ≤ 340

/-- One of the 23 order codes (spec 11). -/
def definedCode (code : Byte) : Bool := 0x01 ≤ code.toNat && code.toNat ≤ 0x17

/-- A term is well formed. -/
def Instr.wellFormed : Instr → Bool
  | .superframeStrobe _ => true
  | .windowExpiry => true
  | .uplinkArrival transfer => headerLength ≤ transfer.length
  | .micHeard _ => true
  | .fetch code _ => code != 0x30
  | .mapFetch _ => true
  | .placement _ => true
  | .feedFrame _ payload => payload.length == feedLength
  | .missCountdownExpiry _ => true
  | .recallCountdownExpiry _ => true
  | .mixRequestSet => true
  | .pollTimerExpiry => true
  | .requestSent _ => true
  | .bayStatus _ payload => replyLength 0x91 == some payload.length
  | .chargeAck _ payload => replyLength 0x92 == some payload.length
  | .imageAck _ payload => replyLength 0x93 == some payload.length
  | .releaseAck _ payload => replyLength 0x94 == some payload.length
  | .strayReply _ kind payload => replyLength kind == some payload.length
  | .replyTimeout => true
  | .imagingTimerExpiry _ => true
  | .takeWaitTimerExpiry _ => true
  | .reactionTimerExpiry _ => true
  | .discardedFrame _ _ line => !line.isEmpty
  | .silenceTimerExpiry => true
  | .frameSent _ => true
  | .setSource _ _ params => paramsFit params
  | .setProgram _ _ params => paramsFit params
  | .setMix _ _ params => paramsFit params
  | .tap _ _ params => paramsFit params
  | .openProgram _ _ params => paramsFit params
  | .closeProgram _ _ params => paramsFit params
  | .recall _ _ params => paramsFit params
  | .setFilter _ _ params => paramsFit params
  | .validateFilter _ _ params => paramsFit params
  | .enrol _ _ params => paramsFit params
  | .assign _ _ params => paramsFit params
  | .bind _ _ params => paramsFit params
  | .forget _ _ params => paramsFit params
  | .setRack _ _ params => paramsFit params
  | .issue _ _ params => paramsFit params
  | .cancel _ _ params => paramsFit params
  | .read _ _ params => paramsFit params
  | .setTiming _ _ params => paramsFit params
  | .mask _ _ params => paramsFit params
  | .status _ _ params => paramsFit params
  | .day _ _ params => paramsFit params
  | .night _ _ params => paramsFit params
  | .reset _ _ params => paramsFit params
  | .resetNAssert => true
  | .resetNRelease _ => true
  | .unknownOrderCode _ _ code params => !definedCode code && paramsFit params

end Sys2Proof
end

