-- ==== Sys2Proof/Safety.lean ====
section
/-! DEFINITION. What counts as a sound state of each block, in the terms the statements use; when the part
takes an order and the state after one; a receiver run over a whole line; the tables of R22 and R144, a change of
superframe and what a map holds as relations. -/

namespace Sys2Proof.Machine

/-! ## Sound states -/

/-- AP's ranges (spec 01, "State held by the air port"), and what it holds while no superframes run. -/
structure AirPort.Sound (a : AirPort) : Prop where
  errors : a.airErrors ≤ 31
  guard : a.guardCount ≤ 500
  quiet : a.quietRun ≤ 500
  interval : a.intervalCount ≤ 4
  flywheel : a.flywheel ≤ 7
  synced : a.sync = .synced → a.flywheel = 0
  flying : a.sync = .flywheel → 1 ≤ a.flywheel
  running : a.onAir = true → a.reference.isSome = true
  standing : a.onAir = false → a.flywheel = 0 ∧ a.reference = none ∧ a.planRecord = none ∧
    a.buffers = .fill 12 ⟨none, none⟩ ∧ a.mapBuffer = ⟨none, none⟩

/-- No frame waits while none is in transmission (R169). -/
def SiteLink.Settled (l : SiteLink) : Prop :=
  l.transmitting = none → l.answers = [] ∧ l.notices = [] ∧ l.tapouts = []

/-- SLI's queues keep their limits (R169, R170, R173), its due mark stands only for a raised and UNMASKED
flag (R174), and the silence timer runs exactly while LINKED (R177). -/
structure SiteLink.Sound (l : SiteLink) : Prop where
  answers : l.answers.length ≤ 16
  notices : l.notices.length ≤ 16
  tapouts : l.tapouts.length ≤ 2
  settled : l.Settled
  due : l.noticesLostDue = true → l.noticesLost = true ∧ l.mask.get 22 = false
  timer : l.silenceTimer.isSome = true ↔ l.link = .linked

/-- RLC's queue keeps its limit and never waits on an idle line (R126); a CHARGE is held pending only
beside a full queue (R132); a miss count is at most 3 (R128). -/
structure RackController.Sound (c : RackController) : Prop where
  limit : c.queue.length ≤ 16
  idle : c.inFlight = none → c.queue = []
  pending : ∀ r, (c.pendingCharge.get r).isSome = true → c.queue.length = 16
  misses : ∀ r, (c.racks.get r).missCount ≤ 3

/-- TRC holds at most four recall orders, at most one per tour (R117). -/
structure TourControl.Sound (c : TourControl) : Prop where
  limit : c.recalls.length ≤ 4
  tours : (c.recalls.map RecallOrder.tour).Nodup
  countdowns : ∀ o ∈ c.recalls, o.countdown ≤ 50

/-- No two issue transactions run on the same rack (R139). -/
def IssueEngine.Apart (e : IssueEngine) : Prop :=
  ∀ i j x y, e.transactions.get i = some x → e.transactions.get j = some y → x.rack = y.rack → i = j

/-- Every rack's charge plan fits its effective budget (R159). -/
def State.PlansFit (s : State) : Prop :=
  ∀ r, totalCurrent (s.chp.get r).plan ≤ s.rackBudget r

/-- Each listener count is the number of entries ISSUED or MISSING with the program (R98). -/
def State.ListenersCounted (s : State) : Prop :=
  ∀ p, s.hrs.listeners.get p = (List.finRange 512).countP fun e =>
    (s.entry e).any fun x => x.state.work.bind Assignment.program == some p

/-- A slot is bound to an entry exactly when the entry is out in the slot, and reserved by a transaction exactly
when the transaction prepares a microphone for it (R99, R100). -/
structure State.SlotsAgree (s : State) : Prop where
  bound : ∀ k e, s.hrs.slots.get k = .bound e ↔
    ∃ x tour, s.entry e = some x ∧ x.state.work = some (.speaker tour k)
  reserved : ∀ k i, s.hrs.slots.get k = .reserved i ↔
    ∃ y tour, s.transaction i = some y ∧ y.work = .speaker tour k

/-- No two roster entries hold the same handset, and no two are DOCKED at the same bay (R86). -/
structure State.EntriesDistinct (s : State) : Prop where
  ids : ∀ e e' x x', s.entry e = some x → s.entry e' = some x' → x.id = x'.id → e = e'
  bays : ∀ e e' x x' r b, s.entry e = some x → s.entry e' = some x' → x.state = .docked r b →
    x'.state = .docked r b → e = e'

/-- The holder table and the programs' holder slots agree (R63); no program waits twice or beside a slot it
holds (R64); holders and waiters are OPEN; tiers lie in their range, and at most one program has ALL-CALL set
(R39). -/
structure State.ScheduleAgrees (s : State) : Prop where
  slots : ∀ d p, s.ats.holders.get d = some p ↔ (s.ats.perProgram.get p).holderSlot = some d
  once : s.ats.waitQueue.Nodup
  apart : ∀ p ∈ s.ats.waitQueue, (s.ats.perProgram.get p).holderSlot = none ∧ (s.program p).isOpen = true
  open_ : ∀ d p, s.ats.holders.get d = some p → (s.program p).isOpen = true
  tiers : ∀ p, (s.program p).tier ≤ 3
  allCall : ∀ p q, (s.program p).allCall = true → (s.program q).allCall = true → p = q

/-! ## Tables -/

/-- Source `b` is source `a` after a detector step with level `l`: the ten rows of R22, and the last level
(R21). The other fields of `b` are not spoken of. -/
structure DetectorStepped (l : Nat) (a b : Source) : Prop where
  lastLevel : b.lastLevel = l
  silentToActive : a.detector = .silent → a.onThreshold ≤ l → a.attack = 1 →
    b.detector = .active ∧ b.attackCounter = 0 ∧ b.hangCounter = a.hangCounter
  silentToOnset : a.detector = .silent → a.onThreshold ≤ l → 1 < a.attack →
    b.detector = .onset ∧ b.attackCounter = 1 ∧ b.hangCounter = a.hangCounter
  silentStays : a.detector = .silent → l < a.onThreshold →
    b.detector = .silent ∧ b.attackCounter = a.attackCounter ∧ b.hangCounter = a.hangCounter
  onsetRises : a.detector = .onset → a.onThreshold ≤ l → b.hangCounter = a.hangCounter ∧
    (a.attack ≤ a.attackCounter + 1 → b.detector = .active ∧ b.attackCounter = 0) ∧
    (a.attackCounter + 1 < a.attack → b.detector = .onset ∧ b.attackCounter = a.attackCounter + 1)
  onsetFalls : a.detector = .onset → l < a.onThreshold →
    b.detector = .silent ∧ b.attackCounter = 0 ∧ b.hangCounter = a.hangCounter
  activeStays : a.detector = .active → a.offThreshold ≤ l →
    b.detector = .active ∧ b.attackCounter = a.attackCounter ∧ b.hangCounter = a.hangCounter
  activeToHanging : a.detector = .active → l < a.offThreshold → 0 < a.hang →
    b.detector = .hanging ∧ b.attackCounter = a.attackCounter ∧ b.hangCounter = a.hang
  activeToSilent : a.detector = .active → l < a.offThreshold → a.hang = 0 →
    b.detector = .silent ∧ b.attackCounter = a.attackCounter ∧ b.hangCounter = a.hangCounter
  hangingToActive : a.detector = .hanging → a.onThreshold ≤ l →
    b.detector = .active ∧ b.attackCounter = a.attackCounter ∧ b.hangCounter = 0
  hangingFalls : a.detector = .hanging → l < a.onThreshold → 0 < a.hangCounter →
    b.hangCounter = a.hangCounter - 1 ∧ b.attackCounter = a.attackCounter ∧
      b.detector = (if a.hangCounter = 1 then .silent else .hanging)

/-- A report shows what the bay record holds already, EMPTY or the same handset, and no FAULT (R134, R135). -/
def State.ReportsNoChange (s : State) (r : Fin 8) (b : Fin 24) (p : BayReport) : Prop :=
  p.charger ≠ .fault ∧ (((s.bay r b).occupancy = .empty ∧ p.occupancy = .empty) ∨
    ∃ y l l', (s.bay r b).occupancy = .occupied y l ∧ p.occupancy = .occupied y l')

/-- Bay `b` of a rack is a candidate for a handset of a kind: the four conditions of R144, the handset's entry
being `e`. -/
def State.Candidate (s : State) (r : Fin 8) (kind : HandsetKind) (b : Fin 24) : Prop :=
  ∃ e x battery, s.entry e = some x ∧ x.state = .docked r b ∧ x.kind = kind ∧
    (s.bay r b).occupancy = .occupied x.id battery ∧ (s.bay r b).foreign = false ∧
    (s.bay r b).charger ≠ .fault ∧ (s.rack r).issueThreshold ≤ battery ∧
    (s.bay r b).reservation = none

/-! ## Superframes -/

/-- `taken` are the retune orders a map takes from the queue `before`, `after` the queue it leaves, with OPEN programs
as `isOpen` says (R74). -/
structure RetunesTaken (isOpen : Fin 32 → Bool) (before after taken : List RetuneOrder) : Prop where
  limit : taken.length ≤ 4
  oldest : ∃ left, before = left ++ after ∧ taken = left.filter (fun o => isOpen o.program) ∧
    ∀ o, after ≠ [] → left.getLast? = some o → isOpen o.program = true
  whole : taken.length < 4 → after = []

/-- The content of a map whose schedule is `a`, beside its target, slots and recalls: the ALL-CALL slot (R72), the
uplink entries of the MIC entries bound (R73), and the retune orders taken from the queue `before` (R74). -/
structure MapHolds (s : State) (before : List RetuneOrder) (a : Scheduler) (m : MapBlock) : Prop where
  allCall : ∀ c, (s.program c).allCall = true → (∀ c', (s.program c').allCall = true → c' = c) →
    m.allCallSlot = (a.perProgram.get c).holderSlot
  noAllCall : (∀ c, (s.program c).allCall = false) → m.allCallSlot = none
  bound : ∀ k e, s.hrs.slots.get k = .bound e → m.uplinks.get k = (s.entry e).map RosterEntry.id
  unbound : ∀ k, (∀ e, s.hrs.slots.get k ≠ .bound e) → m.uplinks.get k = none
  retunes : RetunesTaken (fun p => (s.program p).isOpen) before a.retuneQueue m.retunes

/-- Between `s` and `t` superframe `n` has started, with `a` the air port just before the start: the CONTROL WORD
with the plan of R6, the counts of R14, the map for `n + 1` with all it holds (R72 to R75; its plan is AP's to
write, log 23) and its request set (R76), pruned block stores (R25), one dequeue step for every ENABLED stream
(R31), countdowns one lower (R89, R119) and stray ages one higher (R97). ATS takes the start before or after SRC and
TRC (R65, R119). Programs, the tap, the listener counts, the slots and the rack side stand. -/
structure Started (n : Superframe) (a : AirPort) (s t : State) : Prop where
  ap : t.ap = { a with
    superframe := n
    adatOut := a.adatOut ++ [.controlWord n
      (match a.planRecord with
        | some (m, p) => if m = n then p else a.plan
        | none => a.plan) true]
    guardCount := min 500 (a.guardCount + 1)
    quietRun := if a.airErrors = 0 then min 500 (a.quietRun + 1) else 0 }
  recovered : t.ap.quietRun = 500 → t.sli.airDegraded = false
  built : ∃ m, t.ats.builtMap = some m ∧ m.target = n + 1 ∧ m.void = false ∧ m.plan = none ∧
    m.slots = t.ats.holders ∧ MapHolds s s.ats.retuneQueue t.ats m ∧
    t.handovers.placements = s.handovers.placements ++ [.map m] ∧
    t.handovers.mixSets = s.handovers.mixSets ++ [⟨n + 1,
      (List.finRange 12).filterMap fun d => (t.ats.holders.get d).map fun p => (p, d)⟩]
  heard : t.handovers.heard = s.handovers.heard
  stores : ∀ k b, b ∈ (t.source k).store → b.tag = n ∨ b.tag = n - 1 ∨ b.tag = n - 2
  sources : ∀ k, t.source k =
    if 16 ≤ k.val ∧ (s.source k).enabled = true then ((s.source k).prune n).dequeue n
    else (s.source k).prune n
  schedule : ∃ sources trc, (sources = s.sources ∨ sources = t.sources) ∧
    (trc = s.trc ∨ trc = t.trc) ∧
    t.ats = (State.schedulerStart n { s with sources := sources, trc := trc }).ats ∧
    ∀ m, t.ats.builtMap = some m → m.recalls = (List.finRange 16).filter fun tour =>
      trc.recalls.any fun o => o.tour == tour && 0 < o.countdown
  strays : t.hrs.strays = s.hrs.strays.map fun y => { y with age := min 1000 (y.age + 1) }
  places : t.hrs.listeners = s.hrs.listeners ∧ t.hrs.slots = s.hrs.slots
  countdowns : ∀ e x w c, s.entry e = some x → x.state = .issued w c → 2 ≤ c →
    t.entry e = some { x with state := .issued w (c - 1) }
  recalls : ∀ o ∈ s.trc.recalls, 2 ≤ o.countdown →
    { o with countdown := o.countdown - 1 } ∈ t.trc.recalls
  programs : t.programs = s.programs
  tap : t.tap = s.tap
  rackSide : t.rlc = s.rlc ∧ t.ise = s.ise ∧ t.chp = s.chp

/-- Between `s` and `t` superframes have ended: one CONTROL WORD with transmit enable off, every buffer EMPTY
(R4), the sources, the schedule and Tour Control cleared (R34, R81, R122). -/
structure Ended (s t : State) : Prop where
  ap : t.ap = { s.ap with
    sync := t.ap.sync
    lastStrobe := none
    intervalCount := 0
    reference := none
    flywheel := 0
    planRecord := none
    buffers := .fill 12 ⟨none, none⟩
    mapBuffer := ⟨none, none⟩
    adatOut := s.ap.adatOut ++ [.controlWord s.ap.superframe s.ap.plan false] }
  sources : ∀ k, (t.source k).detector = .silent ∧ (t.source k).store = [] ∧
    (t.source k).lastArrival = none ∧ (t.source k).stream = .priming
  schedule : (∀ d, t.ats.holders.get d = none) ∧ t.ats.waitQueue = [] ∧ t.ats.retuneQueue = [] ∧
    t.ats.builtMap = none
  tours : t.trc = .reset

/-! ## Orders -/

/-- The next ORDER frame is taken: RESET_N is high, no frame is partly received, fewer than sixteen answers
wait and no reset is pending (R170). -/
def State.TakesOrders (s : State) : Prop :=
  s.resetHeld = false ∧ s.sli.receive = .hunt ∧ s.sli.answers.length < 16 ∧
    s.sli.resetPending = none

/-- The state after an order taken at `time`, whose own effect is `f` and whose answer is `code` with
`data`: the frame has made the link LINKED and restarted the silence timer (R177), the answer has joined the
queue (R170), and SLI has started the next frame if none was in transmission (R169). -/
def State.afterOrder (s : State) (time : Time) (tag : Byte) (code : AnswerCode) (data : List Byte)
    (f : State → State) : State :=
  ((f (s.reachTime time).hearSite).onSli fun l =>
    { l with answers := l.answers ++ [⟨tag, code, data⟩] }).startTransmission

/-- The answers on their way out, oldest first: the one in transmission, then those that wait. -/
def SiteLink.answersOut (l : SiteLink) : List AnswerFrame :=
  (match l.transmitting with
    | some (.answer a) => [a]
    | _ => []) ++ l.answers

/-- The notices on their way out, oldest first: the one in transmission, then those that wait. -/
def SiteLink.noticesOut (l : SiteLink) : List NoticeFrame :=
  (match l.transmitting with
    | some (.notice n) => [n]
    | _ => []) ++ l.notices

/-- A notice handed to SLI now is queued: its kind is UNMASKED and there is room, and no NOTICES LOST notice
is due (R173, R174). -/
def State.Queues (s : State) (n : Notice) : Prop :=
  s.masked n = false ∧ s.sli.notices.length < 16 ∧ s.sli.noticesLostDue = false

/-! ## Receiving a line -/

/-- The receiver of a link run over bytes of the line: the state it is left in, and what it brought about,
in order (R168). -/
def receiveLine (link : Link) (r : ReceiveState) : List Byte → ReceiveState × List ReceiveEvent
  | [] => (r, [])
  | b :: rest =>
    let out := receiveByte link r b
    let tail := receiveLine link out.1 rest
    (tail.1, if out.2 = .nothing then tail.2 else out.2 :: tail.2)

end Sys2Proof.Machine
end

