-- ==== Sys2Proof/Certificates/Slice0/Obligations.lean ====
section
/-! DEFINITION. The statements for the provers. A statement about a command gives the next state its effect
leads to, for every state and operands that meet its hypotheses; where the next state is written as an update
of `s`, everything it does not name is unchanged. `startTransmission` at its end is SLI's start of the next
frame at the end of every event (R169, log 8). -/

open Sys2Proof Sys2Proof.Machine

/-! ## The part as a whole -/

/-- A step of a state whose queue holds a command in front runs that command on the state with the queue's rest;
on an empty queue it idles. The queue and the idling are the model's (log 4). -/
def Obligations.StepRunsFrontCommand : Prop :=
  (∀ (c : Instr) (s : State), step { s with pending := c :: s.pending } = exec c s) ∧
  (∀ s : State, s.pending = [] → step s = .next s)

/-- Every command is carried out: the spec names no event that stops the part. -/
def Obligations.CommandsAlwaysComplete : Prop := ∀ (c : Instr) (s : State), ∃ t, exec c s = .next t

/-- A command leaves the queue of waiting commands alone, never takes the clock back, and uses up the tape of
open orders from its front (log 1, log 2). -/
def Obligations.QueueAndClockAreKept : Prop :=
  ∀ (c : Instr) (s t : State), exec c s = .next t →
    t.pending = s.pending ∧ s.now ≤ t.now ∧ ∃ used, s.choices = used ++ t.choices

/-- The values a FULL reset leaves, as R16, R36, R61, R83, R108, R122, R138, R156, R166 and R180 list them. That the
reset stands at time 0, so that the poll timer is due at 100000, is the model's (log 25). -/
def Obligations.ResetValues : Prop :=
  let s := State.reset
  (s.ap.sync = .stopped ∧ s.ap.lastStrobe = none ∧ s.ap.intervalCount = 0 ∧ s.ap.flywheel = 0 ∧
    s.ap.reference = none ∧ s.ap.superframe = 0 ∧ s.ap.plan = .a ∧ s.ap.planRecord = none ∧
    s.ap.airErrors = 0 ∧ s.ap.guardCount = 500 ∧ s.ap.quietRun = 0 ∧
    (∀ k, s.ap.micMarks.get k = none) ∧ (∀ j, s.ap.reportMarks.get j = none) ∧
    (∀ d, s.ap.buffers.get d = ⟨none, none⟩) ∧ s.ap.mapBuffer = ⟨none, none⟩ ∧
    s.ap.syncFaults = 0 ∧ s.ap.lateFills = 0 ∧ s.ap.lateReports = 0 ∧ s.ap.duplicateArrivals = 0 ∧
    s.ap.planToggles = 0) ∧
  (∀ k, s.source k =
    { gain := 1024, onThreshold := 800, offThreshold := 500, attack := 2, hang := 30
      enabled := false, idleDetection := false, idlePattern := 0, idleMask := 0xFFFF
      detector := .silent, attackCounter := 0, hangCounter := 0, lastLevel := 0, store := []
      lastArrival := none, lastRawKey := .up, queue := [], stream := .priming
      referenceSeq := none, underrunRun := 0, highMarkRun := 0, sourceClips := 0, lateBlocks := 0
      foreignBlocks := 0, missingBlocks := 0, underruns := 0, slips := 0, overflowDrops := 0
      staleFeeds := 0 }) ∧
  (∀ p, s.program p =
    { isOpen := false, tour := 0, label := ⟨0x20, 0x20, 0x20, 0x20⟩, tier := 0, allCall := false
      holdOpen := false, test := false, duckGain := 256, testAmplitude := 8192, testHalfPeriod := 8
      mixList := [], limiterGain := 1024, patternPhase := 0, level := 0, blocksMixed := 0
      clippedBlocks := 0, unsentBlocks := 0 }) ∧ s.tap = none ∧
  ((∀ d, s.ats.holders.get d = none) ∧ s.ats.waitQueue = [] ∧ s.ats.builtMap = none ∧
    s.ats.retuneQueue = [] ∧ s.ats.releaseDelay = 25 ∧ s.ats.longWaitLimit = 200 ∧
    s.ats.preemptions = 0 ∧ s.ats.retuneDrops = 0 ∧
    ∀ p, s.ats.perProgram.get p =
      { holderSlot := none, grantSuperframe := none, heldCount := 0, releaseCountdown := none
        waitAge := 0, longWaitMark := false, waitSuperframes := 0 }) ∧
  ((∀ e, s.entry e = none) ∧ (∀ k, s.hrs.slots.get k = .free) ∧
    (∀ p, s.hrs.listeners.get p = 0) ∧ (∀ e, s.hrs.filter.get e = ⟨false, 0, 0, .any⟩) ∧
    s.hrs.filterValid = false ∧ s.hrs.strays = [] ∧ s.hrs.missTimeout = 3000 ∧
    s.hrs.autoEnrol = true ∧ s.hrs.reportErrors = 0 ∧ s.hrs.kindMismatches = 0 ∧
    s.hrs.dockedReports = 0 ∧ s.hrs.unadmittedReports = 0 ∧ s.hrs.strayReports = 0) ∧
  (s.trc.recalls = [] ∧ ∀ k, s.trc.recognizers.get k =
    { state := .idle, key := .up, disagreement := 0, press := 0, gapCount := 0, window := 0 }) ∧
  ((∀ r, s.rack r =
      { present := true, budget := 2000, defaultProgram := none, defaultKind := .receiver
        issueThreshold := 60, warmThreshold := 40, hotThreshold := 45, link := .unknown
        missCount := 0, lastTemperature := none, lastTakeCount := none, replies := 0
        timeouts := 0 }) ∧
    (∀ r b, s.bay r b =
      { occupancy := .unknown, charger := .idle, latch := .locked, image := .none, foreign := false
        reservation := none }) ∧
    s.rlc.queue = [] ∧ s.rlc.inFlight = none ∧ (∀ r, s.rlc.pendingCharge.get r = none) ∧
    s.rlc.rackFrameErrors = 0 ∧ s.rlc.strayReplies = 0 ∧ s.rlc.skippedPolls = 0 ∧
    s.rlc.queueRefusals = 0 ∧ s.rlc.badBayReports = 0 ∧ s.rlc.pollTimer = some 100000) ∧
  ((∀ i, s.transaction i = none) ∧ s.ise.sequenceNumber = 0 ∧
    ∀ r, s.ise.takeRequests.get r = none ∧ s.ise.latches.get r = false ∧
      s.ise.marks.get r = false) ∧
  (∀ r, s.chp.get r =
    { temperature := .normal, plan := .fill 24 .off, acknowledged := none, lastAsked := none
      chargesAsked := 0, shortPlans := 0, badAcks := 0 }) ∧
  (s.sli.mode = .night ∧ s.sli.link = .standalone ∧ s.sli.silenceTimer = none ∧
    s.sli.resetPending = none ∧ s.sli.receive = .hunt ∧ s.sli.answers = [] ∧ s.sli.notices = [] ∧
    s.sli.tapouts = [] ∧ s.sli.transmitting = none ∧ (∀ k, s.sli.mask.get k = false) ∧
    s.sli.syncLost = false ∧ s.sli.airDegraded = false ∧ s.sli.noticesLost = false ∧
    (∀ r, s.sli.rackOffline.get r = false ∧ s.sli.rackHot.get r = false) ∧
    s.sli.noticesLostDue = false ∧ s.sli.siteFrameErrors = 0 ∧ s.sli.noticesDropped = 0 ∧
    s.sli.tapoutDrops = 0 ∧ s.sli.orderOverruns = 0)

/-- The two FULL resets. RESET_N_ASSERT and RESET_N_RELEASE (R16, R138, R180): low, every block is in its FULL reset
state and no CONTROL WORD is sent; while it is low the part takes nothing; high, the poll timer first expires 100 ms
after the rise. FRAME_SENT at the end of the RESET FULL answer (R16, R138, R179, R180): superframes that run end with
their CONTROL WORD (R4), and every block is in its FULL reset state. The model tells that answer by log 32, and keeps
what AP has sent (log 7). That the rack link's receiver is left in HUNT, a frame partly received gone, is log 41. -/
def Obligations.FullResetsResetEveryBlock : Prop :=
  (∀ s : State, ∃ t, exec .resetNAssert s = .next t ∧ t.resetHeld = true ∧
    t.ap = { State.reset.ap with adatOut := s.ap.adatOut } ∧ t.sources = State.reset.sources ∧
    t.programs = State.reset.programs ∧ t.tap = none ∧ t.ats = State.reset.ats ∧
    t.hrs = State.reset.hrs ∧ t.trc = State.reset.trc ∧
    t.rlc = { State.reset.rlc with pollTimer := none } ∧ t.ise = State.reset.ise ∧
    t.chp = State.reset.chp ∧ t.sli = State.reset.sli) ∧
  (∀ (c : Instr) (s : State), s.resetHeld = true → c ≠ .resetNAssert →
    (∀ time, c ≠ .resetNRelease time) → exec c s = .next s) ∧
  (∀ (s : State) (time : Time), s.resetHeld = true → s.now ≤ time →
    exec (.resetNRelease time) s = .next { s with
      resetHeld := false
      now := time
      rlc := { s.rlc with pollTimer := some (time + 100000) } }) ∧
  (∀ (s : State) (time : Time) (a : AnswerFrame),
    s.resetHeld = false → s.sli.transmitting = some (.answer a) → s.sli.answers = [] →
    s.sli.resetPending = some .full → s.now ≤ time →
    ∃ t, exec (.frameSent time) s = .next t ∧ t.now = time ∧ t.resetHeld = false ∧
      t.ap = { State.reset.ap with
        adatOut := s.ap.adatOut ++
          (if s.ap.sync = .synced ∨ s.ap.sync = .flywheel then
            [.controlWord s.ap.superframe s.ap.plan false] else []) } ∧
      t.sources = State.reset.sources ∧ t.programs = State.reset.programs ∧ t.tap = none ∧
      t.ats = State.reset.ats ∧ t.hrs = State.reset.hrs ∧ t.trc = State.reset.trc ∧
      t.rlc = { State.reset.rlc with pollTimer := some (time + 100000) } ∧
      t.ise = State.reset.ise ∧ t.chp = State.reset.chp ∧ t.sli = State.reset.sli)

/-- FRAME_SENT with no reset pending (R169, R174): the oldest ANSWER starts, else the oldest NOTICE, whose
place a due NOTICES LOST notice takes, else the oldest TAPOUT. -/
def Obligations.FrameSentStartsOldestAnswerFirst : Prop :=
  ∀ (s : State) (time : Time) (f : OutFrame),
    s.resetHeld = false → s.sli.transmitting = some f → s.sli.resetPending = none → s.now ≤ time →
    exec (.frameSent time) s = .next { s with
      now := time
      sli := match s.sli.answers, s.sli.notices, s.sli.tapouts with
        | a :: rest, _, _ => { s.sli with transmitting := some (.answer a), answers := rest }
        | [], n :: rest, _ =>
          if s.sli.noticesLostDue then
            { s.sli with
              transmitting := some (.notice n)
              notices := rest ++ [⟨s.ap.superframe, .noticesLost⟩]
              noticesLostDue := false }
          else { s.sli with transmitting := some (.notice n), notices := rest }
        | [], [], p :: rest => { s.sli with transmitting := some (.tapout p), tapouts := rest }
        | [], [], [] => { s.sli with transmitting := none } }

/-- FRAME_SENT at the end of the RESET AIR answer (R4, R17, R37, R62, R84, R122, R179): superframes that run end with
their CONTROL WORD, the blocks an AIR reset reaches take their values, and all the rest stands, SLI sending on. The
model tells the answer by log 32. -/
def Obligations.AirResetFollowsItsAnswer : Prop :=
  ∀ (s : State) (time : Time) (a : AnswerFrame),
    s.resetHeld = false → s.sli.transmitting = some (.answer a) → s.sli.answers = [] →
    s.sli.resetPending = some .air → s.now ≤ time →
    let running : Bool := s.ap.sync = .synced ∨ s.ap.sync = .flywheel
    exec (.frameSent time) s = .next (State.startTransmission { s with
      now := time
      ap := { s.ap with
        sync := if s.sli.mode = .day then .syncing else .stopped
        lastStrobe := none
        intervalCount := 0
        reference := if running then none else s.ap.reference
        flywheel := if running then 0 else s.ap.flywheel
        airErrors := 0
        quietRun := 0
        micMarks := .fill 16 none
        reportMarks := .fill 4 none
        planRecord := none
        buffers := .fill 12 ⟨none, none⟩
        mapBuffer := ⟨none, none⟩
        adatOut := s.ap.adatOut ++
          if running then [.controlWord s.ap.superframe s.ap.plan false] else [] }
      sources := s.sources.map fun r => { r with
        detector := .silent, attackCounter := 0, hangCounter := 0, lastLevel := 0, store := []
        lastArrival := none, lastRawKey := .up, queue := [], stream := .priming
        referenceSeq := none, underrunRun := 0, highMarkRun := 0, sourceClips := 0, lateBlocks := 0
        foreignBlocks := 0, missingBlocks := 0, underruns := 0, slips := 0, overflowDrops := 0
        staleFeeds := 0 }
      programs := s.programs.map fun r => { r with
        limiterGain := 1024, patternPhase := 0, level := 0, blocksMixed := 0, clippedBlocks := 0
        unsentBlocks := 0 }
      tap := none
      ats := { s.ats with
        holders := .fill 12 none, waitQueue := [], retuneQueue := [], builtMap := none
        preemptions := 0, retuneDrops := 0
        perProgram := .fill 32
          { holderSlot := none, grantSuperframe := none, heldCount := 0, releaseCountdown := none
            waitAge := 0, longWaitMark := false, waitSuperframes := 0 } }
      trc :=
        { recognizers := .fill 16
            { state := .idle, key := .up, disagreement := 0, press := 0, gapCount := 0, window := 0 }
          recalls := [] }
      sli := { s.sli with transmitting := none, resetPending := none } })

/-! ## Framing -/

/-- A frame of a kind and length that its link takes inbound, framed as R167 says, is received under R168 as the good
frame it carries, whatever its payload. -/
def Obligations.FramesRoundTrip : Prop :=
  ∀ (link : Link) (kind : Byte) (payload : List Byte),
    kindAllows link kind payload.length = true → payload.length ≤ payloadLimit link →
    receiveLine link .hunt (frameLine kind payload) = (.hunt, [.good kind payload])

/-- DISCARDED_FRAME on either link, each fault of R168: a kind or length the link does not take, a CRC that differs, a
length above the link's limit, a wrong escape, and a new start byte, which begins a new frame. Each raises the link's
frame error counter by one and has no other effect. -/
def Obligations.DiscardedFramesAreCounted : Prop :=
  ∀ (link : Link) (s : State) (time : Time), s.resetHeld = false → s.now ≤ time →
    let receiver : ReceiveState := match link with
      | .site => s.sli.receive
      | .rack => s.rlc.receive
    let discards (line : List Byte) (left : ReceiveState) : Prop :=
      exec (.discardedFrame time link line) s = .next (State.startTransmission
        (match link with
        | .site => { s with
          now := time
          sli := { s.sli with receive := left, siteFrameErrors := bump s.sli.siteFrameErrors } }
        | .rack => { s with
          now := time
          rlc := { s.rlc with receive := left, rackFrameErrors := bump s.rlc.rackFrameErrors } }))
    (∀ (kind : Byte) (payload : List Byte), receiver = .hunt → payload.length ≤ payloadLimit link →
      kindAllows link kind payload.length = false → discards (frameLine kind payload) .hunt) ∧
    (∀ (kind : Byte) (payload : List Byte) (crc : BitVec 16), receiver = .hunt →
      payload.length ≤ payloadLimit link → crc ≠ crcOf (frameBody kind payload) →
      discards (0xA5 :: (frameBody kind payload ++ wordBytes crc).flatMap escapeOne) .hunt) ∧
    (∀ (kind : Byte) (length : BitVec 16), receiver = .hunt → payloadLimit link < length.toNat →
      discards (0xA5 :: (kind :: wordBytes length).flatMap escapeOne) .hunt) ∧
    (∀ (body : List Byte) (b : Byte), receiver = .inFrame body false →
      b ≠ 0xA5 → b ≠ 0xFF → b ≠ 0xFC → discards [0xA6, b] .hunt) ∧
    (∀ (body : List Byte) (escaped : Bool), receiver = .inFrame body escaped →
      discards [0xA5] (.inFrame [] false))

/-! ## Invariants -/

/-- Every command keeps AP's ranges, and nothing held while no superframes run (R3, R4, R12, R14, R16). -/
def Obligations.AirPortStaysSound : Prop :=
  ∀ (c : Instr) (s t : State), s.ap.Sound → exec c s = .next t → t.ap.Sound

/-- Every command keeps SLI's limits and marks (R169, R170, R173, R174, R177). -/
def Obligations.SiteLinkStaysSound : Prop :=
  ∀ (c : Instr) (s t : State), s.sli.Sound → exec c s = .next t → t.sli.Sound

/-- Every command keeps RLC's limits (R126, R128, R132) and the limits on recall orders (R117, R119). -/
def Obligations.RackLinkAndRecallsStaySound : Prop :=
  ∀ (c : Instr) (s t : State), exec c s = .next t →
    (s.rlc.Sound → t.rlc.Sound) ∧ (s.trc.Sound → t.trc.Sound)

/-- Every command keeps the issue transactions on different racks (R139). -/
def Obligations.TransactionsStayApart : Prop :=
  ∀ (c : Instr) (s t : State), s.ise.Apart → exec c s = .next t → t.ise.Apart

/-- Every command keeps every charge plan within its rack's effective budget (R159, R160, R161). -/
def Obligations.PlansStayWithinBudget : Prop :=
  ∀ (c : Instr) (s t : State), s.PlansFit → exec c s = .next t → t.PlansFit

/-- Every command keeps each listener count equal to the number of receivers out for its program (R98). -/
def Obligations.ListenerCountsStayTrue : Prop :=
  ∀ (c : Instr) (s t : State), s.ListenersCounted → exec c s = .next t → t.ListenersCounted

/-- Every command keeps the uplink slot table in step with the roster and the transactions (R99, R100). -/
def Obligations.SlotTableStaysTrue : Prop :=
  ∀ (c : Instr) (s t : State), s.SlotsAgree → exec c s = .next t → t.SlotsAgree

/-- Every command keeps every handset in one roster entry and every bay in one entry alone (R86), and the schedule's
tables in step: holders and holder slots, the wait queue, OPEN programs, tiers and the one ALL-CALL flag (R39, R63,
R64). -/
def Obligations.RosterAndScheduleStayTrue : Prop :=
  ∀ (c : Instr) (s t : State), exec c s = .next t →
    (s.EntriesDistinct → t.EntriesDistinct) ∧ (s.ScheduleAgrees → t.ScheduleAgrees)

/-- The state after reset has every invariant. -/
def Obligations.ResetStateIsSound : Prop :=
  State.reset.ap.Sound ∧ State.reset.sli.Sound ∧ State.reset.rlc.Sound ∧ State.reset.trc.Sound ∧
    State.reset.ise.Apart ∧ State.reset.PlansFit ∧ State.reset.ListenersCounted ∧
    State.reset.SlotsAgree ∧ State.reset.EntriesDistinct ∧ State.reset.ScheduleAgrees

/-! ## Air port -/

/-- SUPERFRAME_STROBE in the window (R2, R3, R5, R6, R14, R72, R76). -/
def Obligations.StrobeInWindowStartsSuperframe : Prop :=
  ∀ (s : State) (ref time : Time),
    s.resetHeld = false → (s.ap.sync = .synced ∨ s.ap.sync = .flywheel) →
    s.ap.reference = some ref → s.now ≤ time → ref + 9900 ≤ time → time ≤ ref + 10100 →
    ∃ t, exec (.superframeStrobe time) s = .next t ∧ t.now = time ∧
      Started (s.ap.superframe + 1)
        { s.ap with sync := .synced, reference := some time, flywheel := 0 } s t

/-- SUPERFRAME_STROBE outside a window. Before the window it is a sync fault and nothing else (R2, R3); in STOPPED it
is ignored (R15). In SYNCING (R1) the first strobe opens an interval, an interval in tolerance raises the count and
any other sets it to 0, and the fifth strobe of a regular run starts superframe 0 in SYNCED with SYNC LOST cleared. -/
def Obligations.StrobesOutsideTheWindow : Prop :=
  (∀ (s : State) (ref time : Time),
    s.resetHeld = false → (s.ap.sync = .synced ∨ s.ap.sync = .flywheel) →
    s.ap.reference = some ref → s.now ≤ time → time < ref + 9900 →
    exec (.superframeStrobe time) s = .next (State.startTransmission
      { s with now := time, ap := { s.ap with syncFaults := bump s.ap.syncFaults } })) ∧
  (∀ (s : State) (time : Time), s.resetHeld = false → s.ap.sync = .stopped → s.now ≤ time →
    exec (.superframeStrobe time) s = .next (State.startTransmission { s with now := time })) ∧
  (∀ (s : State) (time : Time),
    s.resetHeld = false → s.ap.sync = .syncing → s.ap.lastStrobe = none → s.now ≤ time →
    exec (.superframeStrobe time) s = .next (State.startTransmission
      { s with now := time, ap := { s.ap with lastStrobe := some time } })) ∧
  (∀ (s : State) (last time : Time),
    s.resetHeld = false → s.ap.sync = .syncing → s.ap.lastStrobe = some last → s.now ≤ time →
    (time - last < 9900 ∨ 10100 < time - last ∨ s.ap.intervalCount < 3) →
    exec (.superframeStrobe time) s = .next (State.startTransmission
      { s with
        now := time
        ap := { s.ap with
          lastStrobe := some time
          intervalCount :=
            if 9900 ≤ time - last ∧ time - last ≤ 10100 then s.ap.intervalCount + 1 else 0 } })) ∧
  (∀ (s : State) (last time : Time),
    s.resetHeld = false → s.ap.sync = .syncing → s.ap.lastStrobe = some last →
    s.ap.intervalCount = 3 → s.now ≤ time → last + 9900 ≤ time → time ≤ last + 10100 →
    ∃ t, exec (.superframeStrobe time) s = .next t ∧ t.now = time ∧ t.sli.syncLost = false ∧
      Started 0 { s.ap with
        sync := .synced
        lastStrobe := some time
        intervalCount := 4
        reference := some time
        flywheel := 0
        micMarks := .fill 16 none
        reportMarks := .fill 4 none } s t)

/-- WINDOW_EXPIRY starts the next superframe on the timer, with the reference at the time the strobe was due (R2, R3):
flywheel count 1 from SYNCED, one more in FLYWHEEL. At a flywheel count of 7 it ends superframes instead, enters
SYNCING and raises SYNC LOST (R3, R4). -/
def Obligations.WindowExpiryStartsOrEnds : Prop :=
  (∀ (s : State) (ref : Time),
    s.resetHeld = false → s.ap.reference = some ref → s.now ≤ ref + 10100 →
    (s.ap.sync = .synced ∨ (s.ap.sync = .flywheel ∧ s.ap.flywheel < 7)) →
    ∃ t, exec .windowExpiry s = .next t ∧ t.now = ref + 10100 ∧
      Started (s.ap.superframe + 1)
        { s.ap with
          sync := .flywheel
          reference := some (ref + 10000)
          flywheel := if s.ap.sync = .synced then 1 else s.ap.flywheel + 1 } s t) ∧
  (∀ (s : State) (ref : Time),
    s.resetHeld = false → s.ap.reference = some ref → s.now ≤ ref + 10100 →
    s.ap.sync = .flywheel → s.ap.flywheel = 7 →
    ∃ t, exec .windowExpiry s = .next t ∧ t.now = ref + 10100 ∧ t.ap.sync = .syncing ∧ Ended s t ∧
      t.sli.syncLost = true ∧ t.programs = s.programs ∧ t.tap = s.tap ∧ t.hrs = s.hrs ∧
      t.rlc = s.rlc ∧ t.ise = s.ise ∧ t.chp = s.chp ∧
      (s.sli.syncLost = false → s.Queues .syncLost →
        t.sli.noticesOut = s.sli.noticesOut ++ [⟨s.ap.superframe, .syncLost⟩]))

/-- UPLINK_ARRIVAL out of time (R7): late arrivals and duplicates are counted and discarded, and in STOPPED
and SYNCING arrivals are discarded without a count. -/
def Obligations.ArrivalOutOfTimeIsDiscarded : Prop :=
  ∀ (s : State) (status : Byte) (tag : Superframe) (content : List Byte), s.resetHeld = false →
    (s.ap.onAir = false → ∀ code, exec (.uplinkArrival ([code, status] ++ wordBytes tag ++ content)) s =
      .next s.startTransmission) ∧
    (s.ap.onAir = true → ∀ (k : Fin 16) (src : Fin 24), src.val = k.val →
      (tag ≠ s.ap.superframe →
        exec (.uplinkArrival ([.ofNat 8 k.val, status] ++ wordBytes tag ++ content)) s =
          .next (State.startTransmission { s with
            sources := s.sources.modify src fun r => { r with lateBlocks := bump r.lateBlocks } })) ∧
      (tag = s.ap.superframe → s.ap.micMarks.get k = some tag →
        exec (.uplinkArrival ([.ofNat 8 k.val, status] ++ wordBytes tag ++ content)) s =
          .next (State.startTransmission { s with
            ap := { s.ap with duplicateArrivals := bump s.ap.duplicateArrivals } }))) ∧
    (s.ap.onAir = true → ∀ j : Fin 4,
      (tag ≠ s.ap.superframe →
        exec (.uplinkArrival ([.ofNat 8 (16 + j.val), status] ++ wordBytes tag ++ content)) s =
          .next (State.startTransmission { s with
            ap := { s.ap with lateReports := bump s.ap.lateReports } })) ∧
      (tag = s.ap.superframe → s.ap.reportMarks.get j = some tag →
        exec (.uplinkArrival ([.ofNat 8 (16 + j.val), status] ++ wordBytes tag ++ content)) s =
          .next (State.startTransmission { s with
            ap := { s.ap with duplicateArrivals := bump s.ap.duplicateArrivals } })))

/-- UPLINK_ARRIVAL in time for a bound slot. A GOOD block of the bound handset (R7, R8, R12, R21, R22, R27, R28) is
scaled, clamped, muted with the key UP, measured and stored, steps the detector with its level, and HRS is told. A
BAD, ABSENT or FOREIGN one (R27, R29) is a missing block: the detector is stepped with level 0, and the store and the
last raw key stand. -/
def Obligations.GoodMicBlockIsStored : Prop :=
  (∀ (s : State) (k : Fin 16) (src : Fin 24) (e : Fin 512) (x : RosterEntry) (key battery : Byte)
    (samples : Block),
    s.resetHeld = false → s.ap.onAir = true → src.val = k.val → s.hrs.slots.get k = .bound e →
    s.entry e = some x → s.ap.micMarks.get k ≠ some s.ap.superframe → samples.length = 160 →
    (∀ v ∈ samples, -32768 ≤ v ∧ v ≤ 32767) →
    let n := s.ap.superframe
    let out := samples.map fun v => if key = 0 then 0 else clampSample (scale v (s.source src).gain)
    ∃ t, exec (.uplinkArrival ([.ofNat 8 k.val, 0] ++ wordBytes n ++ idBytes x.id ++ [key, battery] ++
        sampleBytes samples)) s = .next t ∧
      t.ap = { s.ap with
        micMarks := s.ap.micMarks.set k (some n), airErrors := s.ap.airErrors - 1 } ∧
      DetectorStepped ((out.map Int.natAbs).sum / 160) (s.source src) (t.source src) ∧
      (t.source src).blockTagged n = some ⟨n, out⟩ ∧
      t.source src = { s.source src with
        detector := (t.source src).detector
        attackCounter := (t.source src).attackCounter
        hangCounter := (t.source src).hangCounter
        lastLevel := (t.source src).lastLevel
        store := (t.source src).store
        lastRawKey := if key = 0 then .up else .down
        lastArrival := some (n, .good)
        sourceClips := bumpBy (samples.countP fun v =>
          clampSample (scale v (s.source src).gain) != scale v (s.source src).gain)
          (s.source src).sourceClips } ∧
      (∀ j, j ≠ src → t.source j = s.source j) ∧
      t.handovers = { s.handovers with
        heard := s.handovers.heard ++ [⟨k, n, min battery.toNat 100⟩] } ∧
      t.programs = s.programs ∧ t.ats = s.ats ∧ t.hrs = s.hrs ∧ t.rlc = s.rlc ∧ t.ise = s.ise ∧
      t.chp = s.chp) ∧
  (∀ (s : State) (k : Fin 16) (src : Fin 24) (e : Fin 512) (x : RosterEntry) (status : Byte)
    (content : List Byte) (outcome : ArrivalOutcome),
    s.resetHeld = false → s.ap.onAir = true → src.val = k.val → s.hrs.slots.get k = .bound e →
    s.entry e = some x → s.ap.micMarks.get k ≠ some s.ap.superframe →
    ((status = 2 ∧ outcome = .absent) ∨ (status ≠ 0 ∧ status ≠ 2 ∧ outcome = .bad) ∨
      (status = 0 ∧ content.length < 325 ∧ outcome = .bad) ∨
      (status = 0 ∧ 325 ≤ content.length ∧ content.take 3 ≠ idBytes x.id ∧ outcome = .foreign)) →
    let n := s.ap.superframe
    ∃ t, exec (.uplinkArrival ([.ofNat 8 k.val, status] ++ wordBytes n ++ content)) s = .next t ∧
      DetectorStepped 0 (s.source src) (t.source src) ∧
      t.source src = { s.source src with
        detector := (t.source src).detector
        attackCounter := (t.source src).attackCounter
        hangCounter := (t.source src).hangCounter
        lastLevel := 0
        lastArrival := some (n, outcome)
        missingBlocks := bump (s.source src).missingBlocks
        foreignBlocks := if outcome = .foreign then bump (s.source src).foreignBlocks
          else (s.source src).foreignBlocks } ∧
      (∀ j, j ≠ src → t.source j = s.source j) ∧ t.handovers = s.handovers ∧
      t.programs = s.programs ∧ t.ats = s.ats ∧ t.hrs = s.hrs ∧ t.rlc = s.rlc ∧ t.ise = s.ise ∧
      t.chp = s.chp)

/-- R12, whole, with R13 for the overflow: what each arrival does to the air error counter. -/
def Obligations.AirErrorCounterSteps : Prop :=
  (∀ (s : State) (k : Fin 16) (content : List Byte), s.resetHeld = false → s.ap.onAir = true →
    let n := s.ap.superframe
    let arrival (status : Byte) (tag : Superframe) : Instr :=
      .uplinkArrival ([.ofNat 8 k.val, status] ++ wordBytes tag ++ content)
    let marked := { s.ap with micMarks := s.ap.micMarks.set k (some n) }
    let other : Plan := match s.ap.plan with
      | .a => .b
      | .b => .a
    (s.ap.micMarks.get k ≠ some n → 325 ≤ content.length →
      ∃ t, exec (arrival 0 n) s = .next t ∧ t.ap = { marked with airErrors := s.ap.airErrors - 1 }) ∧
    (s.ap.micMarks.get k ≠ some n → ∃ t, exec (arrival 2 n) s = .next t ∧ t.ap = marked) ∧
    (s.ap.micMarks.get k ≠ some n → s.ap.airErrors < 31 →
      ∃ t, exec (arrival 1 n) s = .next t ∧
        t.ap = { marked with airErrors := s.ap.airErrors + 1, quietRun := 0 }) ∧
    (s.ap.micMarks.get k ≠ some n → s.ap.airErrors = 31 → s.ap.guardCount = 500 →
      ∃ t, exec (arrival 1 n) s = .next t ∧
        t.ap = { marked with
          airErrors := 0, quietRun := 0, plan := other, guardCount := 0
          planToggles := bump s.ap.planToggles } ∧
        t.sli.airDegraded = false ∧
        (s.hrs.slots.get k = .free → s.Queues (.interference other) →
          t.sli.noticesOut = s.sli.noticesOut ++ [⟨n, .interference other⟩])) ∧
    (s.ap.micMarks.get k ≠ some n → s.ap.airErrors = 31 → s.ap.guardCount < 500 →
      ∃ t, exec (arrival 1 n) s = .next t ∧ t.ap = { marked with airErrors := 0, quietRun := 0 } ∧
        t.sli.airDegraded = true) ∧
    (∀ status tag, tag ≠ n → ∃ t, exec (arrival status tag) s = .next t ∧ t.ap = s.ap) ∧
    (∀ status, s.ap.micMarks.get k = some n → ∃ t, exec (arrival status n) s = .next t ∧
      t.ap = { s.ap with duplicateArrivals := bump s.ap.duplicateArrivals })) ∧
  (∀ (s : State) (transfer : List Byte), s.ap.onAir = false →
    ∃ t, exec (.uplinkArrival transfer) s = .next t ∧ t.ap = s.ap) ∧
  (∀ (s : State) (transfer : List Byte), (∀ k : Fin 16, transfer.head? ≠ some (.ofNat 8 k.val)) →
    ∃ t, exec (.uplinkArrival transfer) s = .next t ∧ t.ap.airErrors = s.ap.airErrors) ∧
  (∀ (c : Instr) (s t : State), s.ap.airErrors ≤ 31 → exec c s = .next t → t.ap.airErrors ≤ 31)

/-- UPLINK_ARRIVAL of a report from a handset of the roster that is out (R89, R92, R93): last heard, battery and
quality are taken and the countdown is loaded; a MISSING handset is FOUND. -/
def Obligations.ReportKeepsHandsetIssued : Prop :=
  ∀ (s : State) (j : Fin 4) (e : Fin 512) (x : RosterEntry) (p : Fin 32) (tour : Fin 16) (battery : Nat)
    (quality : Nat),
    s.resetHeld = false → s.ap.onAir = true → s.ap.reportMarks.get j ≠ some s.ap.superframe →
    s.entry e = some x → (∀ e' x', s.entry e' = some x' → x'.id = x.id → e' = e) → x.id ≠ 0 →
    x.kind = .receiver → 10 ≤ battery → battery ≤ 100 → quality ≤ 15 →
    let n := s.ap.superframe
    let arrival : Instr := .uplinkArrival ([.ofNat 8 (16 + j.val), 0] ++ wordBytes n ++ idBytes x.id ++ [0] ++
      placeBytes p ++ byteBytes battery ++ byteBytes quality)
    let new := some { x with
      state := .issued (.listener p tour) s.hrs.missTimeout
      battery := battery
      lastHeard := some n
      lastQuality := some quality }
    (∀ c, x.state = .issued (.listener p tour) c → 0 < c →
      ∃ t, exec arrival s = .next t ∧ t.entry e = new ∧ (∀ e', e' ≠ e → t.entry e' = s.entry e') ∧
        t.hrs.listeners = s.hrs.listeners ∧ t.ats = s.ats ∧
        (s.sli.Settled → t.sli.noticesOut = s.sli.noticesOut)) ∧
    (x.state = .missing (.listener p tour) →
      ∃ t, exec arrival s = .next t ∧ t.entry e = new ∧ (∀ e', e' ≠ e → t.entry e' = s.entry e') ∧
        t.hrs.listeners = s.hrs.listeners ∧ t.ats = s.ats ∧
        (s.Queues (.found x.id x.kind (.listener p tour) battery (some quality)) →
          t.sli.noticesOut = s.sli.noticesOut ++
            [⟨n, .found x.id x.kind (.listener p tour) battery (some quality)⟩]))

/-- UPLINK_ARRIVAL of every other report: an ISSUED receiver that names another program (R94), a battery below 10
(R91), an ISSUED or MISSING microphone, whose program is not read (R93), a report of the wrong kind or of a DOCKED
handset (R93), a bad one (R92), and a stranger's, judged by the admission filter (R95) and the stray list (R97).
That LOW BATTERY carries ISSUED for a handset just found is the model's (log 39), and so is an expiry still waiting
that the report would take first (log 5), which the clauses leave aside. -/
def Obligations.ReportsOfEverySort : Prop :=
  ∀ (s : State) (j : Fin 4) (id : HandsetId) (kind program battery quality : Byte),
    s.resetHeld = false → s.ap.onAir = true → s.ap.reportMarks.get j ≠ some s.ap.superframe →
    let n := s.ap.superframe
    let arrival : Instr := .uplinkArrival ([.ofNat 8 (16 + j.val), 0] ++ wordBytes n ++ idBytes id ++
      [kind, program, battery, quality])
    let level := min 100 battery.toNat
    let marked := { s.ap with reportMarks := s.ap.reportMarks.set j (some n) }
    let counted (hrs : Roster) : Prop := exec arrival s =
      .next (State.startTransmission { s with ap := marked, hrs := hrs })
    (id = 0 ∨ 1 < kind.toNat →
      counted { s.hrs with reportErrors := bump s.hrs.reportErrors }) ∧
    exec (.uplinkArrival ([.ofNat 8 (16 + j.val), 1] ++ wordBytes n)) s =
      .next (State.startTransmission { s with
        ap := marked, hrs := { s.hrs with reportErrors := bump s.hrs.reportErrors } }) ∧
    (∀ e x, id ≠ 0 → kind.toNat ≤ 1 → s.EntriesDistinct → s.entry e = some x → x.id = id →
      (∀ w, x.state ≠ .issued w 0) →
      (kind ≠ (if x.kind = .receiver then 0 else 1) →
        counted { s.hrs with kindMismatches := bump s.hrs.kindMismatches }) ∧
      (∀ r b, kind = (if x.kind = .receiver then 0 else 1) → x.state = .docked r b →
        counted { s.hrs with dockedReports := bump s.hrs.dockedReports }) ∧
      (∀ p tour c, kind = 0 → x.kind = .receiver → x.state = .issued (.listener p tour) c →
        let new (q : Fin 32) := some { x with
          state := .issued (.listener q tour) s.hrs.missTimeout
          battery := level
          lowBattery := x.lowBattery || decide (level < 10)
          lastHeard := some n
          lastQuality := some (min 15 quality.toNat) }
        (∀ q : Fin 32, program = .ofNat 8 q.val → q ≠ p → (s.program q).isOpen = true →
          (s.program q).tour = tour →
          ∃ t, exec arrival s = .next t ∧ t.entry e = new q ∧
            (∀ e', e' ≠ e → t.entry e' = s.entry e') ∧
            t.hrs.listeners = (s.hrs.listeners.modify p (· - 1)).modify q (· + 1) ∧ t.ats = s.ats) ∧
        ((32 ≤ program.toNat ∨ ∃ q : Fin 32, program = .ofNat 8 q.val ∧ q ≠ p ∧
            ((s.program q).isOpen = false ∨ (s.program q).tour ≠ tour)) →
          ∃ t, exec arrival s = .next t ∧ t.entry e = new p ∧
            (∀ e', e' ≠ e → t.entry e' = s.entry e') ∧ t.hrs.listeners = s.hrs.listeners ∧
            t.ats = s.ats.queueRetune ⟨id, p⟩) ∧
        (program = .ofNat 8 p.val →
          ∃ t, exec arrival s = .next t ∧ t.entry e = new p ∧ t.ats = s.ats ∧
            (level < 10 → x.lowBattery = false →
              s.Queues (.lowBattery id .receiver level .issued (some (.listener p tour))) →
              t.sli.noticesOut = s.sli.noticesOut ++
                [⟨n, .lowBattery id .receiver level .issued (some (.listener p tour))⟩]) ∧
            (10 ≤ level ∨ x.lowBattery = true → s.sli.Settled →
              t.sli.noticesOut = s.sli.noticesOut))) ∧
      (∀ p tour, kind = 0 → x.kind = .receiver → x.state = .missing (.listener p tour) →
        program = .ofNat 8 p.val → level < 10 → x.lowBattery = false →
        s.sli.notices.length < 15 → s.masked (.lowBattery id .receiver level .issued none) = false →
        s.Queues (.found id .receiver (.listener p tour) level (some (min 15 quality.toNat))) →
        ∃ t, exec arrival s = .next t ∧ t.sli.noticesOut = s.sli.noticesOut ++
          [⟨n, .found id .receiver (.listener p tour) level (some (min 15 quality.toNat))⟩,
            ⟨n, .lowBattery id .receiver level .issued (some (.listener p tour))⟩]) ∧
      (∀ tour k, kind = 1 → x.kind = .mic →
        let w := Assignment.speaker tour k
        let low : Notice := .lowBattery id .mic level .issued (some w)
        let found : Notice := .found id .mic w level (some (min 15 quality.toNat))
        let heard (sent : List Notice) : Prop := ∃ t, exec arrival s = .next t ∧
          t.entry e = some { x with
            state := .issued w s.hrs.missTimeout
            battery := level
            lowBattery := x.lowBattery || decide (level < 10)
            lastHeard := some n
            lastQuality := some (min 15 quality.toNat) } ∧
          (∀ e', e' ≠ e → t.entry e' = s.entry e') ∧ t.hrs.listeners = s.hrs.listeners ∧
          t.hrs.slots = s.hrs.slots ∧ t.ats = s.ats ∧ t.ap = marked ∧
          (s.masked low = false → s.masked found = false → s.sli.noticesLostDue = false →
            s.sli.notices.length + sent.length ≤ 16 →
            t.sli.noticesOut = s.sli.noticesOut ++ sent.map fun x => ⟨n, x⟩)
        let warns : Prop := level < 10 ∧ x.lowBattery = false
        (∀ c, x.state = .issued w c → (warns → heard [low]) ∧ (¬warns → heard [])) ∧
        (x.state = .missing w → (warns → heard [found, low]) ∧ (¬warns → heard [found]))) ∧
      (kind = (if x.kind = .receiver then 0 else 1) → x.state = .recalled ∨ x.state = .loose →
        exec arrival s = .next (State.startTransmission { s with
          ap := marked
          hrs := { s.hrs with entries := s.hrs.entries.set e (some { x with
            battery := level
            lastHeard := some n
            lastQuality := some (min 15 quality.toNat) }) } }))) ∧
    (id ≠ 0 → (∀ e x, s.entry e = some x → x.id ≠ id) →
      ∀ k : HandsetKind, kind = (if k = .receiver then 0 else 1) →
      let matches_ (f : FilterEntry) : Prop := f.used = true ∧
        (∀ i : Nat, i < 24 → f.mask.getLsbD i = false → id.getLsbD i = f.pattern.getLsbD i) ∧
        (f.kind = .any ∨ (f.kind = .receiver ∧ k = .receiver) ∨ (f.kind = .mic ∧ k = .mic))
      (s.hrs.filterValid = false ∨ (∀ i, ¬matches_ (s.hrs.filter.get i)) →
        counted { s.hrs with unadmittedReports := bump s.hrs.unadmittedReports }) ∧
      (∀ i, s.hrs.filterValid = true → matches_ (s.hrs.filter.get i) →
        (∀ i', i' < i → ¬matches_ (s.hrs.filter.get i')) →
        let heard (strays : List Stray) : Roster := { s.hrs with
          strayReports := bump s.hrs.strayReports, strays := strays }
        let notice : Notice := .stray id k (placeOf 32 program) level (min 15 quality.toNat) i
        let told (strays : List Stray) : Prop := ∃ t, exec arrival s = .next t ∧ t.hrs = heard strays ∧
          t.ap = marked ∧
          (s.Queues notice → t.sli.noticesOut = s.sli.noticesOut ++ [⟨n, notice⟩])
        (∀ before y after, s.hrs.strays = before ++ y :: after → y.id = id →
          id ∉ (before ++ after).map Stray.id →
          (y.age < 1000 → counted (heard s.hrs.strays)) ∧
          (1000 ≤ y.age → told (before ++ after ++ [⟨id, 0⟩]))) ∧
        (id ∉ s.hrs.strays.map Stray.id →
          (s.hrs.strays.length < 8 → told (s.hrs.strays ++ [⟨id, 0⟩])) ∧
          (∀ oldest rest, s.hrs.strays = oldest :: rest → rest.length = 7 →
            told (rest ++ [⟨id, 0⟩])))))

/-- The downlink buffers. FETCH of slot Dk (R10): the block tagged m, or a FILL block; outside SYNCED and FLYWHEEL
always FILL. MAP_FETCH (R11): the map for m + 1, or a VOID MAP, with the plan record's plan or P. PLACEMENT of the
oldest block or map waiting (R9): taken for n or n + 1 unless that tag was fetched already, else discarded; a map
taken gets P, and so does the plan record. That blocks wait in order for PLACEMENT is the model's (log 3). -/
def Obligations.BuffersAreFilledAndFetched : Prop :=
  (∀ (s : State) (d : Fin 12) (m : Superframe), s.resetHeld = false →
    let fill : AirTransfer := .downlink ⟨m, .fillForLateFetch, silence⟩
    let fetch : Instr := .fetch (.ofNat 8 (0x20 + d.val)) m
    (s.ap.onAir = false → exec fetch s = .next (State.startTransmission
      { s with ap := { s.ap with adatOut := s.ap.adatOut ++ [fill] } })) ∧
    (s.ap.onAir = true → ∀ b, (s.ap.buffers.get d).held = some b → b.tag = m →
      exec fetch s = .next (State.startTransmission { s with ap := { s.ap with
        buffers := s.ap.buffers.set d ⟨none, some m⟩
        adatOut := s.ap.adatOut ++ [.downlink b] } })) ∧
    (s.ap.onAir = true → (s.ap.buffers.get d).held = none →
      exec fetch s = .next (State.startTransmission { s with ap := { s.ap with
        buffers := s.ap.buffers.set d ⟨none, some m⟩
        lateFills := bump s.ap.lateFills
        adatOut := s.ap.adatOut ++ [fill] } })) ∧
    (s.ap.onAir = true → ∀ b, (s.ap.buffers.get d).held = some b →
      (ahead m b.tag = true ∨ ahead b.tag m = true) →
      exec fetch s = .next (State.startTransmission { s with ap := { s.ap with
        buffers := s.ap.buffers.set d ⟨if ahead b.tag m then some b else none, some m⟩
        lateFills := bump s.ap.lateFills
        adatOut := s.ap.adatOut ++ [fill] } }))) ∧
  (∀ (s : State) (m : Superframe), s.resetHeld = false →
    let void (t : Superframe) (p : Plan) : AirTransfer :=
      .map ⟨t, some p, true, none, .fill 12 none, .fill 16 none, [], []⟩
    let plan := match s.ap.planRecord with
      | some (r, p) => if r = m + 1 then p else s.ap.plan
      | none => s.ap.plan
    (s.ap.onAir = false → exec (.mapFetch m) s = .next (State.startTransmission
      { s with ap := { s.ap with adatOut := s.ap.adatOut ++ [void s.ap.superframe s.ap.plan] } })) ∧
    (s.ap.onAir = true → ∀ b, s.ap.mapBuffer.held = some b → b.target = m + 1 →
      exec (.mapFetch m) s = .next (State.startTransmission { s with ap := { s.ap with
        mapBuffer := ⟨none, some (m + 1)⟩
        adatOut := s.ap.adatOut ++ [.map b] } })) ∧
    (s.ap.onAir = true → s.ap.mapBuffer.held = none →
      exec (.mapFetch m) s = .next (State.startTransmission { s with ap := { s.ap with
        mapBuffer := ⟨none, some (m + 1)⟩
        planRecord := some (m + 1, plan)
        lateFills := bump s.ap.lateFills
        adatOut := s.ap.adatOut ++ [void (m + 1) plan] } })) ∧
    (s.ap.onAir = true → ∀ b, s.ap.mapBuffer.held = some b →
      (ahead (m + 1) b.target = true ∨ ahead b.target (m + 1) = true) →
      exec (.mapFetch m) s = .next (State.startTransmission { s with ap := { s.ap with
        mapBuffer := ⟨if ahead b.target (m + 1) then some b else none, some (m + 1)⟩
        planRecord := some (m + 1, plan)
        lateFills := bump s.ap.lateFills
        adatOut := s.ap.adatOut ++ [void (m + 1) plan] } }))) ∧
  (∀ (s : State) (rest : List Placement), s.resetHeld = false →
    let after : State := { s with handovers := { s.handovers with placements := rest } }
    (∀ d b, s.handovers.placements = .downlink d b :: rest →
      exec (.placement (.downlink d)) s = .next (State.startTransmission
        (if s.ap.onAir = true ∧ (b.tag = s.ap.superframe ∨ b.tag = s.ap.superframe + 1) ∧
            (s.ap.buffers.get d).fetched ≠ some b.tag then
          { after with ap := { s.ap with
            buffers := s.ap.buffers.set d ⟨some b, (s.ap.buffers.get d).fetched⟩ } }
        else after))) ∧
    (∀ m, s.handovers.placements = .map m :: rest →
      exec (.placement .map) s = .next (State.startTransmission
        (if s.ap.onAir = true ∧ (m.target = s.ap.superframe ∨ m.target = s.ap.superframe + 1) ∧
            s.ap.mapBuffer.fetched ≠ some m.target then
          { after with ap := { s.ap with
            mapBuffer := ⟨some { m with plan := some s.ap.plan }, s.ap.mapBuffer.fetched⟩
            planRecord := some (m.target, s.ap.plan) } }
        else after))))

/-- MIC_HEARD (R90): the entry bound to the slot takes last heard and battery, an ISSUED countdown is loaded
again, and a MISSING microphone is FOUND. That the news waits in order for this command is the model's (log 3). -/
def Obligations.HeardMicStaysIssued : Prop :=
  ∀ (s : State) (h : HeardNews) (rest : List HeardNews) (e : Fin 512) (x : RosterEntry) (w : Assignment),
    s.resetHeld = false → s.handovers.heard = h :: rest → s.hrs.slots.get h.slot = .bound e →
    s.entry e = some x → 10 ≤ h.battery →
    let new := some { x with
      state := .issued w s.hrs.missTimeout
      battery := h.battery
      lastHeard := some h.superframe }
    (∀ c, x.state = .issued w c → 0 < c →
      exec (.micHeard h.slot) s = .next (State.startTransmission { s with
        handovers := { s.handovers with heard := rest }
        hrs := { s.hrs with entries := s.hrs.entries.set e new } })) ∧
    (x.state = .missing w →
      ∃ t, exec (.micHeard h.slot) s = .next t ∧ t.entry e = new ∧ t.ap = s.ap ∧
        t.handovers = { s.handovers with heard := rest } ∧
        (s.Queues (.found x.id x.kind w h.battery none) →
          t.sli.noticesOut = s.sli.noticesOut ++
            [⟨h.superframe, .found x.id x.kind w h.battery none⟩]))

/-- MISS_COUNTDOWN_EXPIRY (R89) and RECALL_COUNTDOWN_EXPIRY (R119): an entry whose countdown has reached 0
becomes MISSING, its notice headed by the last heard superframe number; a recall order whose countdown has reached 0
is removed. That the expiry is a command after the start that lowered the countdown is the model's (log 5), and so is
AP's number in the notice of a handset never heard from (log 15). -/
def Obligations.CountdownExpiries : Prop :=
  (∀ (s : State) (e : Fin 512) (x : RosterEntry) (w : Assignment),
    s.resetHeld = false → s.entry e = some x → x.state = .issued w 0 →
    ∃ t, exec (.missCountdownExpiry e) s = .next t ∧
      t.entry e = some { x with state := .missing w } ∧
      (∀ e', e' ≠ e → t.entry e' = s.entry e') ∧ t.hrs.listeners = s.hrs.listeners ∧
      t.hrs.slots = s.hrs.slots ∧ t.ap = s.ap ∧ t.rlc = s.rlc ∧
      (s.Queues (.missing x.id x.kind w x.battery) →
        t.sli.noticesOut = s.sli.noticesOut ++
          [⟨x.lastHeard.getD s.ap.superframe, .missing x.id x.kind w x.battery⟩])) ∧
  (∀ (s : State) (o : RecallOrder) (before after : List RecallOrder),
    s.resetHeld = false → s.trc.recalls = before ++ o :: after → o.countdown = 0 →
    (∀ o' ∈ before ++ after, o'.tour ≠ o.tour) →
    exec (.recallCountdownExpiry o.tour) s = .next (State.startTransmission
      { s with trc := { s.trc with recalls := before ++ after } }))

/-! ## Sources, mixer, schedule, charging -/

/-- FEED_FRAME for an ENABLED stream in DAY (R30): appended when ahead of the tail or, on an empty queue, of
the reference sequence; a full queue drops its head; else it is stale. -/
def Obligations.FeedFrameJoinsQueue : Prop :=
  ∀ (s : State) (time : Time) (k : Fin 24) (seq : SeqNumber) (samples : Block),
    s.resetHeld = false → s.sli.receive = .hunt → s.now ≤ time → 16 ≤ k.val → s.sli.mode = .day →
    (s.source k).enabled = true → samples.length = 160 →
    (∀ v ∈ samples, -32768 ≤ v ∧ v ≤ 32767) →
    let r := s.source k
    let feed : Instr := .feedFrame time (placeBytes k ++ wordBytes seq ++ sampleBytes samples)
    let after (f : Source) : State := State.startTransmission { s with
      now := time
      sli := { s.sli with link := .linked, silenceTimer := some (time + 3000000) }
      sources := s.sources.set k f }
    (r.queue = [] → (∀ f, r.referenceSeq = some f → ahead seq f = true) →
      exec feed s = .next (after { r with queue := [⟨seq, samples⟩] })) ∧
    (∀ front last, r.queue = front ++ [last] → ahead seq last.seqNumber = true → r.queue.length < 8 →
      exec feed s = .next (after { r with queue := r.queue ++ [⟨seq, samples⟩] })) ∧
    (∀ head tail last, r.queue = head :: tail ++ [last] → ahead seq last.seqNumber = true →
      r.queue.length = 8 →
      exec feed s = .next (after { r with
        queue := tail ++ [last, ⟨seq, samples⟩]
        referenceSeq := some head.seqNumber
        overflowDrops := bump r.overflowDrops })) ∧
    (∀ front last, r.queue = front ++ [last] → ahead seq last.seqNumber = false →
      exec feed s = .next (after { r with staleFeeds := bump r.staleFeeds })) ∧
    (∀ f, r.queue = [] → r.referenceSeq = some f → ahead seq f = false →
      exec feed s = .next (after { r with staleFeeds := bump r.staleFeeds }))

/-- The dequeue step of an ENABLED stream at the start of superframe `n` (R31, R32, R33), which each start takes for
it (`Started`): silence in PRIMING with fewer than three blocks, an underrun, and a block played, with the slip check
behind it. -/
def Obligations.StreamsDequeueAtStart : Prop :=
  ∀ (n : Superframe) (r : Source),
    let u := r.dequeue n
    let silent (v : Source) : Prop := DetectorStepped 0 r u ∧ u = { v with
      detector := u.detector, attackCounter := u.attackCounter, hangCounter := u.hangCounter
      lastLevel := 0 }
    (r.stream = .priming → r.queue.length < 3 → silent { r with highMarkRun := 0 }) ∧
    (r.stream = .running → r.queue = [] →
      (r.underrunRun < 2 → silent { r with
        underruns := bump r.underruns, underrunRun := r.underrunRun + 1, highMarkRun := 0 }) ∧
      (2 ≤ r.underrunRun → silent { r with
        underruns := bump r.underruns, underrunRun := 0, highMarkRun := 0, stream := .priming
        referenceSeq := none })) ∧
    (∀ b rest, r.queue = b :: rest → r.stream = .running ∨ 2 ≤ rest.length →
      let idle : Prop := r.idleDetection = true ∧
        ∀ v ∈ b.samples, (BitVec.ofInt 16 v ^^^ r.idlePattern) &&& r.idleMask = 0
      let out := b.samples.map fun v => clampSample (scale v r.gain)
      (idle → DetectorStepped 0 r u ∧ u.store = r.store ∧ u.sourceClips = r.sourceClips) ∧
      (¬idle → DetectorStepped ((out.map Int.natAbs).sum / 160) r u ∧
        u.blockTagged n = some ⟨n, out⟩ ∧
        u.sourceClips = bumpBy (b.samples.countP fun v =>
          clampSample (scale v r.gain) != scale v r.gain) r.sourceClips) ∧
      let played (queue : List FeedBlock) (last : SeqNumber) (run slips : Nat) : Prop := u = { r with
        detector := u.detector, attackCounter := u.attackCounter, hangCounter := u.hangCounter
        lastLevel := u.lastLevel, store := u.store, sourceClips := u.sourceClips
        stream := .running, underrunRun := 0, queue := queue, referenceSeq := some last
        highMarkRun := run, slips := slips }
      (rest.length ≤ 6 → played rest b.seqNumber 0 r.slips) ∧
      (6 < rest.length → r.highMarkRun < 49 →
        played rest b.seqNumber (r.highMarkRun + 1) r.slips) ∧
      (∀ head tail, rest = head :: tail → 6 < rest.length → 49 ≤ r.highMarkRun →
        played tail head.seqNumber 0 (bump r.slips)))

/-- MIX_REQUEST_SET (R45, R46, R53): each program of the set gets one block for its slot, tagged with the set's
target, marked PROGRAM for an OPEN program and FILL, with samples of 0, for a CLOSED one, which it leaves as it
stands. That the sets wait in order is the model's (log 3). -/
def Obligations.RequestSetFillsEverySlot : Prop :=
  ∀ (s : State) (m : MixRequestSet) (rest : List MixRequestSet),
    s.resetHeld = false → s.handovers.mixSets = m :: rest →
    ∃ (t : State) (blocks : List (Fin 12 × DownlinkBlock)),
      exec .mixRequestSet s = .next t ∧ t.handovers.mixSets = rest ∧
      t.handovers.placements = s.handovers.placements ++ blocks.map (fun x => .downlink x.1 x.2) ∧
      blocks.map Prod.fst = m.programs.map Prod.snd ∧
      (∀ x ∈ blocks, x.2.tag = m.target) ∧
      blocks.map (fun x => x.2.mark) = m.programs.map (fun x =>
        if (s.program x.1).isOpen then BlockMark.program else BlockMark.fillFromMixer) ∧
      (∀ x ∈ blocks, x.2.mark = .fillFromMixer → x.2.samples = List.replicate 160 0) ∧
      (∀ p, (s.program p).isOpen = false → t.program p = s.program p) ∧
      t.ap = s.ap ∧ t.sources = s.sources ∧ t.ats = s.ats ∧ t.hrs = s.hrs ∧ t.rlc = s.rlc ∧
      t.ise = s.ise ∧ t.chp = s.chp

/-- MIX_REQUEST_SET for one OPEN program, with its slot, or with none where an AUDIO tap asks for a tap-only mix (R45,
R46). A mix (R47 to R51): each source's samples are its block of the superframe before, a microphone's older block
halved, or silence; each is scaled by its weight, M or M ducked by D under a speaking source of a higher class, and the
sum by Lg and clamped. A test pattern (R52) stands in its place where TEST is set. Then the tap on the program is
served (R56 to R58): one TAP LEVELS notice with the tap off behind it, one at each multiple of the period, or a TAPOUT
frame, dropped and counted beside two that wait. -/
def Obligations.MixScalesThenLimits : Prop :=
  ∀ (s : State) (target : Superframe) (p : Fin 32) (slot : Option (Fin 12)) (rest : List MixRequestSet),
    s.resetHeld = false → s.handovers.mixSets = ⟨target, slot.toList.map fun d => (p, d)⟩ :: rest →
    (slot = none → s.tap = some ⟨p, .audio⟩) →
    (∀ x, s.tap = some x → x.mode = .audio → x.program = p) → (s.program p).isOpen = true →
    let r := s.program p
    let made (o : Block) (after : Program) : Prop :=
      let done : State := { s with
        handovers := { s.handovers with
          mixSets := rest
          placements := s.handovers.placements ++
            slot.toList.map fun d => .downlink d ⟨target, .program, o⟩ }
        programs := s.programs.set p
          (if slot = none then { after with unsentBlocks := bump r.unsentBlocks } else after) }
      let levels : Notice := .tapLevels p after.level after.limiterGain (s.hrs.listeners.get p)
        (s.ats.perProgram.get p).holderSlot (r.mixList.map fun e =>
          ⟨e.source, (s.source e.source).lastLevel, (s.source e.source).detector⟩)
      let gives (u : State) : Prop := exec .mixRequestSet s = .next u.startTransmission
      ((∀ mode, s.tap ≠ some ⟨p, mode⟩) → gives done) ∧
      (s.tap = some ⟨p, .levelsOnce⟩ → gives ({ done with tap := none }.sendNoticeAt target levels)) ∧
      (∀ period, s.tap = some ⟨p, .levelsEvery period⟩ →
        (target.toNat % period = 0 → gives (done.sendNoticeAt target levels)) ∧
        (target.toNat % period ≠ 0 → gives done)) ∧
      (s.tap = some ⟨p, .audio⟩ →
        (s.sli.tapouts.length < 2 → gives { done with
          sli := { s.sli with tapouts := s.sli.tapouts ++ [⟨p, target, after.level, o⟩] } }) ∧
        (2 ≤ s.sli.tapouts.length → gives { done with
          sli := { s.sli with tapoutDrops := bump s.sli.tapoutDrops } }))
    (∀ pick : MixEntry → Block, r.test = false → (∀ e ∈ r.mixList, (pick e).length = 160) →
      (∀ e ∈ r.mixList,
        (∃ b, (s.source e.source).blockTagged (target - 2) = some b ∧ pick e = b.samples) ∨
        ((s.source e.source).blockTagged (target - 2) = none ∧ e.source.val < 16 ∧
          ∃ b, (s.source e.source).blockTagged (target - 3) = some b ∧
            pick e = b.samples.map fun v => (v * 512 + 512) / 1024) ∨
        ((s.source e.source).blockTagged (target - 2) = none ∧
          (16 ≤ e.source.val ∨ (s.source e.source).blockTagged (target - 3) = none) ∧
          pick e = List.replicate 160 0)) →
      let ducked (e : MixEntry) : Prop := ∃ e' ∈ r.mixList, e.duckClass < e'.duckClass ∧
        ((s.source e'.source).detector = .active ∨ (s.source e'.source).detector = .hanging)
      ∀ weight : MixEntry → Nat,
      (∀ e ∈ r.mixList, (ducked e → weight e = (e.gain * r.duckGain + 512) / 1024) ∧
        (¬ducked e → weight e = e.gain)) →
      let y := (List.range 160).map fun i =>
        (r.mixList.map fun e => ((pick e).getD i 0 * (weight e : Int) + 512) / 1024).sum
      let z := y.map fun v : Int => (v * (r.limiterGain : Int) + 512) / 1024
      let o := z.map fun v : Int => max (-32768) (min 32767 v)
      made o { r with
        limiterGain := if o = z then min 1024 (r.limiterGain + 16) else max 256 (r.limiterGain - 64)
        clippedBlocks := if o = z then r.clippedBlocks else bump r.clippedBlocks
        level := (o.map Int.natAbs).sum / 160
        blocksMixed := bump r.blocksMixed }) ∧
    (r.test = true → 1 ≤ r.testHalfPeriod → r.patternPhase < 2 * r.testHalfPeriod →
      made ((List.range 160).map fun k =>
          if (r.patternPhase + k) / r.testHalfPeriod % 2 = 0 then (r.testAmplitude : Int)
          else -(r.testAmplitude : Int))
        { r with
          patternPhase := (r.patternPhase + 160) % (2 * r.testHalfPeriod)
          level := r.testAmplitude
          blocksMixed := bump r.blocksMixed })

/-- R50, whole: the limiter gain after a mix with sum `y`, its range, which every command keeps, and the runs between
its ends. -/
def Obligations.LimiterFollowsClips : Prop :=
  (∀ (r : Program) (y : Block),
    let clipped := ∃ v ∈ y, (v * r.limiterGain + 512) / 1024 < -32768 ∨
      32767 < (v * r.limiterGain + 512) / 1024
    (clipped → (r.afterMix y).limiterGain = max 256 (r.limiterGain - 64) ∧
      (r.afterMix y).clippedBlocks = bump r.clippedBlocks) ∧
    (¬clipped → (r.afterMix y).limiterGain = min 1024 (r.limiterGain + 16) ∧
      (r.afterMix y).clippedBlocks = r.clippedBlocks) ∧
    (256 ≤ r.limiterGain → r.limiterGain ≤ 1024 →
      256 ≤ (r.afterMix y).limiterGain ∧ (r.afterMix y).limiterGain ≤ 1024)) ∧
  (∀ (s : State) (t : Superframe) (p : Fin 32) (slot : Fin 12),
    (s.program p).isOpen = true → (s.program p).test = false →
    ∃ y, (s.makeBlock t p (some slot)).handovers.placements = s.handovers.placements ++
        [.downlink slot ⟨t, .program,
          y.map fun v => max (-32768) (min 32767 ((v * (s.program p).limiterGain + 512) / 1024))⟩] ∧
      (s.makeBlock t p (some slot)).program p = (s.program p).afterMix y ∧
      (s.makeBlock t p none).program p =
        { (s.program p).afterMix y with unsentBlocks := bump (s.program p).unsentBlocks }) ∧
  (∀ (s : State) (m : MixRequestSet) (p : Fin 32), p ∉ m.programs.map Prod.fst →
    s.tap ≠ some ⟨p, .audio⟩ → (s.takeMixSet m).program p = s.program p) ∧
  (∀ (c : Instr) (s t : State), exec c s = .next t →
    (∀ p, 256 ≤ (s.program p).limiterGain ∧ (s.program p).limiterGain ≤ 1024) →
    ∀ p, 256 ≤ (t.program p).limiterGain ∧ (t.program p).limiterGain ≤ 1024) ∧
  (nextLimiter true)^[12] 1024 = 256 ∧ (nextLimiter true)^[11] 1024 ≠ 256 ∧
  (nextLimiter false)^[48] 256 = 1024 ∧ (nextLimiter false)^[47] 256 ≠ 1024

/-- The scheduler's steps at the start of superframe `n` (R65 to R71), which each start takes (`Started`). `a` is
the schedule before the start and `b` after it; a program demands as R65 says. Holders are released at once (R67),
after their countdown (R68), or stay; waiters leave, age and send LONG WAIT (R69), and demanders join; free slots go
to the queue by tier and then by place, lowest slot first, so that no slot below a granted one is free (R70) and no
program waits beside a free slot; ALL-CALL takes a slot when all are held (R71). -/
def Obligations.SchedulerStartSteps : Prop :=
  (∀ (s : State) (p : Fin 32), s.demands p = true ↔ (s.program p).isOpen = true ∧
    (0 < s.hrs.listeners.get p ∨ (s.program p).allCall = true ∨ (s.program p).holdOpen = true) ∧
    ((∃ e ∈ (s.program p).mixList, (s.source e.source).detector = .active ∨
      (s.source e.source).detector = .hanging) ∨ (s.program p).test = true ∨
      (s.program p).holdOpen = true)) ∧
  (∀ (s : State) (n : Superframe) (d : Fin 12),
    (s.schedulerStart n).ats.holders.get d = none → (s.schedulerStart n).ats.waitQueue = []) ∧
  (∀ (s : State) (n : Superframe), s.ScheduleAgrees →
    let a := s.ats
    let b := (s.schedulerStart n).ats
    let wanted (p : Fin 32) : Prop := 0 < s.hrs.listeners.get p ∨ (s.program p).allCall = true ∨
      (s.program p).holdOpen = true
    let queue := a.waitQueue.filter s.demands ++ (List.finRange 32).filter fun p =>
      s.demands p && (a.perProgram.get p).holderSlot.isNone && !a.waitQueue.contains p
    let before (p q : Fin 32) : Prop := s.effectiveTier q < s.effectiveTier p ∨
      (s.effectiveTier q = s.effectiveTier p ∧ [p, q].Sublist queue)
    let gone (p : Fin 32) : Prop := (b.perProgram.get p).holderSlot = none ∧ p ∉ b.waitQueue ∧
      b.perProgram.get p = { a.perProgram.get p with
        holderSlot := none, grantSuperframe := none, heldCount := 0, releaseCountdown := none }
    (∀ p d, (a.perProgram.get p).holderSlot = some d → ¬wanted p → gone p) ∧
    (∀ p d, (a.perProgram.get p).holderSlot = some d → wanted p → s.demands p = false →
      (∀ c, (a.perProgram.get p).releaseCountdown = some c → c ≤ 1 → gone p) ∧
      ((a.perProgram.get p).releaseCountdown = none → a.releaseDelay = 0 → gone p)) ∧
    (∀ p d, (a.perProgram.get p).holderSlot = some d → wanted p →
      (∀ q ∈ queue, (s.program q).allCall = false) →
      let kept (countdown : Option Nat) : Prop := b.perProgram.get p = { a.perProgram.get p with
        heldCount := bump (a.perProgram.get p).heldCount, releaseCountdown := countdown }
      (s.demands p = true → kept none) ∧
      (s.demands p = false → (a.perProgram.get p).releaseCountdown = none → 0 < a.releaseDelay →
        kept (some a.releaseDelay)) ∧
      (∀ c, s.demands p = false → (a.perProgram.get p).releaseCountdown = some c → 1 < c →
        kept (some (c - 1)))) ∧
    (∀ p ∈ a.waitQueue, s.demands p = false → p ∉ b.waitQueue ∧ b.perProgram.get p =
      { a.perProgram.get p with waitAge := 0, longWaitMark := false }) ∧
    (∀ p ∈ a.waitQueue, s.demands p = true →
      let f := a.perProgram.get p
      (b.perProgram.get p).waitSuperframes = bump f.waitSuperframes ∧
      (p ∈ b.waitQueue → b.perProgram.get p = { f with
        waitAge := min 6001 (f.waitAge + 1)
        longWaitMark := f.longWaitMark || decide (a.longWaitLimit < min 6001 (f.waitAge + 1))
        waitSuperframes := bump f.waitSuperframes })) ∧
    (∀ p, a.waitQueue.filter s.demands = [p] → (a.perProgram.get p).longWaitMark = false →
      let age := min 6001 ((a.perProgram.get p).waitAge + 1)
      a.longWaitLimit < age → s.Queues (.longWait p (s.program p).tier age) →
      (s.schedulerStart n).sli.notices = s.sli.notices ++
        [⟨n, .longWait p (s.program p).tier age⟩]) ∧
    (∀ p, p ∈ queue → (b.perProgram.get p).holderSlot = none → p ∈ b.waitQueue) ∧
    (∀ p ∈ queue, ∀ d, (b.perProgram.get p).holderSlot = some d →
      p ∉ b.waitQueue ∧ b.perProgram.get p = { b.perProgram.get p with
        grantSuperframe := some n, heldCount := 0, releaseCountdown := none, waitAge := 0
        longWaitMark := false }) ∧
    (∀ p ∈ queue, ∀ q ∈ queue, ∀ d', before p q → (b.perProgram.get q).holderSlot = some d' →
      ∃ d, (b.perProgram.get p).holderSlot = some d ∧ d < d') ∧
    (∀ p ∈ queue, ∀ d, (b.perProgram.get p).holderSlot = some d →
      ∀ d', d' < d → b.holders.get d' ≠ none) ∧
    ((∀ q ∈ queue, (s.program q).allCall = false) → b.waitQueue = queue.filter fun p =>
      (b.perProgram.get p).holderSlot.isNone) ∧
    (∀ c ∈ queue, (s.program c).allCall = true →
      (∀ d, ∃ p, a.holders.get d = some p ∧ s.demands p = true) →
      ∃ d v, a.holders.get d = some v ∧
        (∀ d' v', a.holders.get d' = some v' → (s.program v).tier < (s.program v').tier ∨
          ((s.program v).tier = (s.program v').tier ∧
            (bump (a.perProgram.get v).heldCount < bump (a.perProgram.get v').heldCount ∨
              (bump (a.perProgram.get v).heldCount = bump (a.perProgram.get v').heldCount ∧
                d' ≤ d)))) ∧
        b.holders = a.holders.set d (some c) ∧ b.waitQueue = v :: queue.filter (· != c) ∧
        b.perProgram.get v = { a.perProgram.get v with
          holderSlot := none, grantSuperframe := none, heldCount := 0, releaseCountdown := none
          waitAge := 0, longWaitMark := false } ∧
        (b.perProgram.get c).holderSlot = some d ∧ b.preemptions = bump a.preemptions))

/-- R77: a retune order takes the place of its handset's order, or joins at the tail, the oldest dropped from
a full queue; so the queue keeps at most eight orders, one per handset. -/
def Obligations.RetuneQueueHoldsOnePerHandset : Prop :=
  ∀ (a : Scheduler) (o : RetuneOrder),
    (∀ before after old, a.retuneQueue = before ++ old :: after → old.id = o.id →
      (a.retuneQueue.map RetuneOrder.id).Nodup →
      a.queueRetune o = { a with retuneQueue := before ++ o :: after }) ∧
    (o.id ∉ a.retuneQueue.map RetuneOrder.id → a.retuneQueue.length < 8 →
      a.queueRetune o = { a with retuneQueue := a.retuneQueue ++ [o] }) ∧
    (∀ oldest rest, o.id ∉ a.retuneQueue.map RetuneOrder.id → a.retuneQueue = oldest :: rest →
      8 ≤ a.retuneQueue.length →
      a.queueRetune o =
        { a with retuneQueue := rest ++ [o], retuneDrops := bump a.retuneDrops }) ∧
    ((a.retuneQueue.map RetuneOrder.id).Nodup → a.retuneQueue.length ≤ 8 →
      ((a.queueRetune o).retuneQueue.map RetuneOrder.id).Nodup ∧
        (a.queueRetune o).retuneQueue.length ≤ 8)

/-- The charge plan. R157: the desired level of a bay, by the first condition that holds. R158: the temperature state
after each temperature. R159: the computed plan fits the effective budget and stands above no desired level; where
the desired levels fit, they are the plan; where they do not, bays are lowered one level at a time, each time the one
at the highest level, then of the highest battery, then of the highest number, until the total fits. SHORT PLANS
counts the plans that lowered a bay. -/
def Obligations.ComputedPlanFitsBudget : Prop :=
  (∀ (threshold : Nat) (b : Bay), desiredLevel threshold b =
    if b.occupancy = .empty ∨ b.occupancy = .unknown then .off
    else if b.charger = .fault then .off
    else if b.reservation ≠ none then .off
    else if b.battery = 100 then .off
    else if b.battery < threshold then .fast
    else if 95 ≤ b.battery then .trickle
    else .normal) ∧
  (∀ warm hot t : Int,
    nextTemperature warm hot t .normal =
      (if hot ≤ t then .hot else if warm ≤ t then .warm else .normal) ∧
    nextTemperature warm hot t .warm =
      (if hot ≤ t then .hot else if t ≤ warm - 3 then .normal else .warm) ∧
    nextTemperature warm hot t .hot = (if t < warm then .normal else .hot)) ∧
  (∀ (s : State) (r : Fin 8),
    let desired : Table 24 ChargeLevel := .build 24 fun b =>
      desiredLevel (s.rack r).issueThreshold (s.bay r b)
    let budget := match (s.chp.get r).temperature with
      | .normal => (s.rack r).budget
      | .warm => (s.rack r).budget / 2
      | .hot => 0
    totalCurrent (s.computePlan r).1 ≤ budget ∧
      (∀ b, ((s.computePlan r).1.get b).current ≤ (desired.get b).current) ∧
      (totalCurrent desired ≤ budget → s.computePlan r = (desired, false)) ∧
      (budget < totalCurrent desired → (s.computePlan r).2 = true) ∧
      s.computePlan r = reducePlan (s.rlc.bays.get r) budget 72 desired ∧
      ((s.planRack r).chp.get r).plan = (s.computePlan r).1 ∧
      ((s.planRack r).chp.get r).shortPlans =
        (if (s.computePlan r).2 then bump (s.chp.get r).shortPlans
        else (s.chp.get r).shortPlans)) ∧
  (∀ (bays : Table 24 Bay) (budget k : Nat) (levels : Table 24 ChargeLevel),
    (totalCurrent levels ≤ budget → reducePlan bays budget k levels = (levels, false)) ∧
    (budget < totalCurrent levels → ∃ b, levels.get b ≠ .off ∧
      (∀ b', levels.get b' ≠ .off → (levels.get b').current < (levels.get b).current ∨
        (levels.get b' = levels.get b ∧ ((bays.get b').battery < (bays.get b).battery ∨
          ((bays.get b').battery = (bays.get b).battery ∧ b' ≤ b)))) ∧
      reducePlan bays budget (k + 1) levels =
        ((reducePlan bays budget k (levels.set b (match levels.get b with
          | .fast => .normal
          | .normal => .trickle
          | .trickle => .off
          | .off => .off))).1, true)))

/-! ## Rack link, issue engine and timers -/

/-- POLL_TIMER_EXPIRY (R131): every present rack with no POLL waiting gets one, ascending; behind a full queue
the POLLs are counted instead; on an idle line the first starts at once (log 9); the timer runs on. REQUEST_SENT and
STRAY_REPLY (R126): the reply timer of 20 ms starts when the request has been sent; a good frame that answers no
exchange in flight is counted and does nothing else. -/
def Obligations.PollAndReplyTimers : Prop :=
  (∀ (s : State) (due : Time), s.resetHeld = false → s.rlc.pollTimer = some due →
    let asked := (List.finRange 8).filter fun r => (s.rack r).present &&
      !s.rlc.queue.any fun x => x.rack == r && x.request == .poll
    let after (c : RackController) : Host.Outcome State Fault Refusal :=
      .next (State.startTransmission
        { s with now := max s.now due, rlc := { c with pollTimer := some (due + 100000) } })
    (∀ f, s.rlc.inFlight = some f → s.rlc.queue.length + asked.length ≤ 16 →
      exec .pollTimerExpiry s = after { s.rlc with
        queue := s.rlc.queue ++ asked.map fun r => ⟨r, .poll⟩ }) ∧
    (∀ f, s.rlc.inFlight = some f → 16 ≤ s.rlc.queue.length →
      exec .pollTimerExpiry s = after { s.rlc with
        skippedPolls := bumpBy asked.length s.rlc.skippedPolls }) ∧
    (∀ r rest, s.rlc.inFlight = none → s.rlc.queue = [] → (∀ r', s.rlc.pendingCharge.get r' = none) →
      asked = r :: rest →
      exec .pollTimerExpiry s = after { s.rlc with
        inFlight := some ⟨⟨r, .poll⟩, none, false⟩
        queue := rest.map fun r' => ⟨r', .poll⟩ })) ∧
  (∀ (s : State) (time : Time) (x : Exchange) (left : Bool),
    s.resetHeld = false → s.rlc.inFlight = some ⟨x, none, left⟩ → s.now ≤ time →
    exec (.requestSent time) s = .next (State.startTransmission
      { s with now := time, rlc := { s.rlc with inFlight := some ⟨x, some (time + 20000), left⟩ } })) ∧
  (∀ (s : State) (time : Time) (kind : Byte) (payload : List Byte),
    s.resetHeld = false → s.rlc.receive = .hunt → s.now ≤ time →
    kindAllows .rack kind payload.length = true →
    (∀ f, s.rlc.inFlight = some f → kind ≠ f.exchange.request.replyKind ∨
      payload.head? ≠ some (.ofNat 8 f.exchange.rack.val)) →
    exec (.strayReply time kind payload) s = .next (State.startTransmission
      { s with now := time, rlc := { s.rlc with strayReplies := bump s.rlc.strayReplies } }))

/-- BAY_STATUS for the POLL in flight of a present rack (R127, R134, R135, R136, R158): the rack record, the
temperature state, every bay whose report passed, and the count of bad reports. One whose rack has left service since
the POLL started is not compared (R124). That it raises REPLIES is log 14, that none of R134's steps is taken where
its rack is present again is log 43, and the order of its end and the next start is log 2. -/
def Obligations.BayStatusFillsRack : Prop :=
  (∀ (s : State) (time : Time) (r : Fin 8) (timer : Option Time) (temperature takes : Byte)
    (reports : Table 24 (List Byte)),
    s.resetHeld = false → s.rlc.receive = .hunt → s.rlc.inFlight = some ⟨⟨r, .poll⟩, timer, false⟩ →
    (s.rack r).present = true → (∀ b, (reports.get b).length = 10) →
    let t0 : Int := max (-40) (min 125 temperature.toInt)
    ∃ t, exec (.bayStatus time (placeBytes r ++ [temperature, takes] ++ reports.rows.flatten)) s =
        .next t ∧
      t.rack r = { s.rack r with
        link := .online, missCount := 0, replies := bump (s.rack r).replies
        lastTemperature := some t0, lastTakeCount := some takes } ∧
      (∀ r', r' ≠ r → t.rack r' = s.rack r') ∧
      (t.chp.get r).temperature = nextTemperature (s.rack r).warmThreshold (s.rack r).hotThreshold t0
        (s.chp.get r).temperature ∧
      ((s.rack r).link = .offline → t.sli.rackOffline.get r = false) ∧
      (∀ b p, bayReportOf (reports.get b) = some p →
        (t.bay r b).occupancy = p.occupancy ∧ (t.bay r b).charger = p.charger ∧
          (t.bay r b).latch = p.latch ∧ (t.bay r b).image = p.image) ∧
      (∀ b, bayReportOf (reports.get b) = none →
        (t.bay r b).occupancy = (s.bay r b).occupancy ∧ (t.bay r b).charger = (s.bay r b).charger ∧
          (t.bay r b).latch = (s.bay r b).latch ∧ (t.bay r b).image = (s.bay r b).image) ∧
      t.rlc.badBayReports = bumpBy (reports.rows.countP fun x => (bayReportOf x).isNone)
        s.rlc.badBayReports ∧
      (∀ r' b, r' ≠ r → (t.bay r' b).occupancy = (s.bay r' b).occupancy ∧
        (t.bay r' b).charger = (s.bay r' b).charger ∧ (t.bay r' b).latch = (s.bay r' b).latch ∧
        (t.bay r' b).image = (s.bay r' b).image ∧ (t.bay r' b).foreign = (s.bay r' b).foreign) ∧
      t.ap = s.ap ∧ t.programs = s.programs ∧ t.tap = s.tap) ∧
  (∀ (s : State) (time : Time) (r : Fin 8) (timer : Option Time) (payload : List Byte),
    s.resetHeld = false → s.rlc.receive = .hunt → s.now ≤ time →
    s.rlc.inFlight = some ⟨⟨r, .poll⟩, timer, true⟩ → payload.length = 242 →
    exec (.bayStatus time (placeBytes r ++ payload)) s = .next (State.startTransmission { s with
      now := time
      choices := s.choices.drop 1
      rlc := RackController.startExchange { s.rlc with
        inFlight := none
        racks := s.rlc.racks.modify r fun k => { k with replies := bump k.replies } } }))

/-- BAY_STATUS in which one bay shows a change (R134, R140, R141, R142): a handset that docks is enrolled, makes the bay
FOREIGN, returns, or moves; one that is gone becomes LOOSE; a swap is a removal and then a docking; the same handset
is no event. No transaction runs on the rack and no press comes with the reply. -/
def Obligations.DockingsAndRemovals : Prop :=
  ∀ (s : State) (time : Time) (r : Fin 8) (b : Fin 24) (timer : Option Time) (temperature takes : Byte)
    (reports : Table 24 (List Byte)) (p : BayReport),
    s.resetHeld = false → s.rlc.receive = .hunt → s.rlc.inFlight = some ⟨⟨r, .poll⟩, timer, false⟩ →
    (s.rack r).present = true → (∀ b', (reports.get b').length = 10) →
    bayReportOf (reports.get b) = some p → p.charger ≠ .fault →
    (∀ b' q, b' ≠ b → bayReportOf (reports.get b') = some q → s.ReportsNoChange r b' q) →
    ((s.rack r).lastTakeCount = none ∨ (s.rack r).lastTakeCount = some takes) →
    (∀ i x, s.transaction i = some x → x.rack ≠ r) → (s.bay r b).reservation = none →
    s.EntriesDistinct →
    let reply : Instr := .bayStatus time (placeBytes r ++ [temperature, takes] ++ reports.rows.flatten)
    let n := s.ap.superframe
    let told (t : State) (x : Notice) : Prop := s.Queues x →
      ∃ more, t.sli.noticesOut = s.sli.noticesOut ++ [⟨n, x⟩] ++ more
    let others (t : State) (e : Fin 512) : Prop := ∀ e', e' ≠ e → t.entry e' = s.entry e'
    let vacant : Prop := (s.bay r b).occupancy = .empty ∨ ((s.bay r b).occupancy = .unknown ∧
      ∀ e x, s.entry e = some x → x.state ≠ .docked r b)
    (∀ y battery, p.occupancy = .occupied y battery → vacant →
      (∀ e x, s.entry e = some x → x.state ≠ .docked r b) →
      ((∀ e x, s.entry e = some x → x.id ≠ y) →
        (∀ e, s.hrs.autoEnrol = true → s.entry e = none → (∀ e', e' < e → s.entry e' ≠ none) →
          ∃ t, exec reply s = .next t ∧
            t.entry e = some ⟨y, p.kind, .docked r b, battery, false, none, none⟩ ∧ others t e ∧
            t.hrs.strays = s.hrs.strays.filter (fun z => z.id != y) ∧
            (t.bay r b).foreign = false ∧ told t (.enrolled y p.kind e r b battery)) ∧
        (s.hrs.autoEnrol = true → (∀ e, s.entry e ≠ none) →
          ∃ t, exec reply s = .next t ∧ t.hrs = s.hrs ∧ (t.bay r b).foreign = true ∧
            told t (.rosterFull y p.kind r b)) ∧
        (s.hrs.autoEnrol = false →
          ∃ t, exec reply s = .next t ∧ t.hrs = s.hrs ∧ (t.bay r b).foreign = true)) ∧
      (∀ e x, s.entry e = some x → x.id = y →
        let docked := some { x with state := .docked r b, battery := battery }
        ((∀ r' b', x.state ≠ .docked r' b') →
          ∃ t, exec reply s = .next t ∧ t.entry e = docked ∧ others t e ∧
            (t.bay r b).foreign = false ∧
            told t (.returned y x.kind e r b battery x.state.name x.state.work) ∧
            (∀ q tour, x.state.work = some (.listener q tour) →
              t.hrs.listeners = s.hrs.listeners.modify q (· - 1) ∧ t.hrs.slots = s.hrs.slots) ∧
            (∀ tour k, x.state.work = some (.speaker tour k) →
              t.hrs.slots = s.hrs.slots.set k .free ∧ t.hrs.listeners = s.hrs.listeners ∧
              t.trc.recognizers = s.trc.recognizers.set k .reset ∧
              ∀ src : Fin 24, src.val = k.val → (t.source src).store = [] ∧
                (t.source src).detector = .silent ∧ (t.source src).lastArrival = none) ∧
            (x.state.work = none → t.hrs.listeners = s.hrs.listeners ∧ t.hrs.slots = s.hrs.slots)) ∧
        (∀ r' b', x.state = .docked r' b' → (∀ i z, s.transaction i = some z → z.id ≠ y) →
          ∃ t, exec reply s = .next t ∧ t.entry e = docked ∧ others t e ∧
            t.hrs.listeners = s.hrs.listeners ∧ t.hrs.slots = s.hrs.slots ∧ t.ise = s.ise) ∧
        (∀ r' b' i z, x.state = .docked r' b' → s.transaction i = some z → z.id = y →
          (∀ j z', s.transaction j = some z' → z'.id = y → j = i) →
          s.ise.latches.get z.rack = false →
          ∃ t, exec reply s = .next t ∧ t.entry e = docked ∧ others t e ∧ t.transaction i = none ∧
            told t (.issueResult .handsetLost z.origin i z.imageTag z.id z.work.kind z.rack z.bay
              none none)))) ∧
    (∀ z l, (s.bay r b).occupancy = .occupied z l → p.occupancy = .empty →
      (∀ e x, s.entry e = some x → x.id = z → x.state = .docked r b →
        ∃ t, exec reply s = .next t ∧ t.entry e = some { x with state := .loose } ∧ others t e ∧
          t.hrs.listeners = s.hrs.listeners ∧ t.hrs.slots = s.hrs.slots ∧
          told t (.unissuedRemoval z x.kind e r b x.battery)) ∧
      ((∀ e x, s.entry e = some x → x.id = z → x.state ≠ .docked r b) →
        ∃ t, exec reply s = .next t ∧ t.hrs = s.hrs)) ∧
    ((s.bay r b).occupancy = .unknown → p.occupancy = .empty → ∀ e x, s.entry e = some x →
      x.state = .docked r b →
      ∃ t, exec reply s = .next t ∧ t.entry e = some { x with state := .loose } ∧ others t e ∧
        told t (.unissuedRemoval x.id x.kind e r b x.battery)) ∧
    (∀ z l y battery e x e2 x2, (s.bay r b).occupancy = .occupied z l →
      p.occupancy = .occupied y battery → y ≠ z → s.entry e = some x → x.id = z →
      x.state = .docked r b → s.entry e2 = some x2 → x2.id = y → x2.state = .loose →
      ∃ t, exec reply s = .next t ∧ t.entry e = some { x with state := .loose } ∧
        t.entry e2 = some { x2 with state := .docked r b, battery := battery } ∧
        (∀ e', e' ≠ e → e' ≠ e2 → t.entry e' = s.entry e') ∧
        (s.Queues (.unissuedRemoval z x.kind e r b x.battery) → s.sli.notices.length < 15 →
          s.masked (.returned y x2.kind e2 r b battery .loose none) = false →
          ∃ more, t.sli.noticesOut = s.sli.noticesOut ++
            [⟨n, .unissuedRemoval z x.kind e r b x.battery⟩,
              ⟨n, .returned y x2.kind e2 r b battery .loose none⟩] ++ more)) ∧
    (∀ y battery, p.occupancy = .occupied y battery →
      ((∃ l, (s.bay r b).occupancy = .occupied y l) ∨ ((s.bay r b).occupancy = .unknown ∧
        ∃ e x, s.entry e = some x ∧ x.id = y ∧ x.state = .docked r b)) →
      ∃ t, exec reply s = .next t ∧ t.hrs = s.hrs)

/-- BAY_STATUS of a rack with an issue transaction or with new presses. A handset taken in TAKE-WAIT ends its
transaction TAKEN (R142, R148, R149), one taken before ends it HANDSET LOST (R142). With no change at the bays, the
image state moves a transaction in IMAGING to RELEASING or ends it IMAGE FAILED, and a request set for retry is made
again (R146); a RELEASE is asked where the acknowledged plan shows the bay at OFF (R147). New presses of the take
button (R136) create a take request, set the latch, are ignored, or are dropped (R151). That a press beside a pending
request is ignored where a transaction runs too is the model's (log 36). -/
def Obligations.TakesAndPresses : Prop :=
  ∀ (s : State) (time : Time) (r : Fin 8) (timer : Option Time) (temperature takes : Byte)
    (reports : Table 24 (List Byte)),
    s.resetHeld = false → s.rlc.receive = .hunt → s.rlc.inFlight = some ⟨⟨r, .poll⟩, timer, false⟩ →
    (s.rack r).present = true → (∀ b', (reports.get b').length = 10) →
    let reply : Instr := .bayStatus time (placeBytes r ++ [temperature, takes] ++ reports.rows.flatten)
    let n := s.ap.superframe
    let told (t : State) (x : Notice) : Prop := s.Queues x →
      ∃ more, t.sli.noticesOut = s.sli.noticesOut ++ [⟨n, x⟩] ++ more
    (∀ (b : Fin 24) (p : BayReport) (i : Fin 4) (y : Transaction) (l : Nat) (e : Fin 512)
      (x : RosterEntry), bayReportOf (reports.get b) = some p → p.occupancy = .empty →
      p.charger ≠ .fault →
      (∀ b' q, b' ≠ b → bayReportOf (reports.get b') = some q → s.ReportsNoChange r b' q) →
      ((s.rack r).lastTakeCount = none ∨ (s.rack r).lastTakeCount = some takes) →
      s.EntriesDistinct → s.ise.Apart → s.transaction i = some y → y.rack = r → y.bay = b →
      (s.bay r b).reservation = some i → (s.bay r b).occupancy = .occupied x.id l →
      s.entry e = some x → x.state = .docked r b → s.ise.latches.get r = false →
      let result (o : IssueOutcome) (st : Option EntryStateName) (w : Option Assignment) : Notice :=
        .issueResult o y.origin i y.imageTag y.id y.work.kind r b st w
      let ended (t : State) (x' : RosterEntry) : Prop := exec reply s = .next t ∧
        t.transaction i = none ∧ (∀ j, j ≠ i → t.transaction j = s.transaction j) ∧
        (t.bay r b).reservation = none ∧ t.entry e = some x' ∧
        ∀ e', e' ≠ e → t.entry e' = s.entry e'
      (∀ q tour, y.state = .takeWait → y.work = .listener q tour → (s.program q).isOpen = true →
        let w := Assignment.listener q (s.program q).tour
        ∃ t, ended t { x with
            state := .issued w s.hrs.missTimeout, battery := l, lowBattery := false } ∧
          t.hrs.listeners = s.hrs.listeners.modify q (· + 1) ∧ t.hrs.slots = s.hrs.slots ∧
          told t (result .taken (some .issued) (some w))) ∧
      (∀ q tour, y.state = .takeWait → y.work = .listener q tour → (s.program q).isOpen = false →
        ∃ t, ended t { x with state := .recalled, battery := l } ∧
          t.hrs.listeners = s.hrs.listeners ∧ t.hrs.slots = s.hrs.slots ∧
          told t (result .taken (some .recalled) none)) ∧
      (∀ tour k, y.state = .takeWait → y.work = .speaker tour k →
        ∃ t, ended t { x with
            state := .issued y.work s.hrs.missTimeout, battery := l, lowBattery := false } ∧
          t.hrs.slots = s.hrs.slots.set k (.bound e) ∧ t.hrs.listeners = s.hrs.listeners ∧
          told t (result .taken (some .issued) (some y.work))) ∧
      (y.state = .imaging ∨ y.state = .releasing →
        ∃ t, ended t { x with state := .loose } ∧ t.hrs.listeners = s.hrs.listeners ∧
          (∀ tour k, y.work = .speaker tour k → s.hrs.slots.get k = .reserved i →
            t.hrs.slots = s.hrs.slots.set k .free) ∧
          told t (result .handsetLost none none))) ∧
    (∀ (i : Fin 4) (y : Transaction),
      (∀ b' q, bayReportOf (reports.get b') = some q → s.ReportsNoChange r b' q) →
      ((s.rack r).lastTakeCount = none ∨ (s.rack r).lastTakeCount = some takes) →
      s.ise.Apart → s.transaction i = some y → y.rack = r →
      let image := match bayReportOf (reports.get y.bay) with
        | some p => p.image
        | none => (s.bay r y.bay).image
      let leaves (z : Transaction) : Prop := ∃ t, exec reply s = .next t ∧ t.hrs = s.hrs ∧
        t.ise = { s.ise with transactions := s.ise.transactions.set i (some z) }
      let asks (request : RackRequest) (joined refused : Transaction) : Prop :=
        ∃ t, exec reply s = .next t ∧ t.hrs = s.hrs ∧
          ((t.ise = { s.ise with
              transactions := s.ise.transactions.set i (some joined)
              marks := s.ise.marks.set r true } ∧
            (⟨r, request⟩ ∈ t.rlc.queue ∨ t.rlc.inFlight = some ⟨⟨r, request⟩, none, false⟩)) ∨
          t.ise = { s.ise with transactions := s.ise.transactions.set i (some refused) }) ∧
          (s.rlc.Sound → s.rlc.queue.length < 15 → t.ise.marks.get r = true)
      let off : Prop := ∃ levels, (s.chp.get r).acknowledged = some levels ∧ levels.get y.bay = .off
      let release (z : Transaction) : Prop :=
        asks (.release z.bay z.imageTag) { z with retry := none, releaseAsked := true }
          { z with retry := some .release, releaseAsked := true }
      (y.state = .imaging → image = .done y.imageTag → y.releaseAsked = false → y.retry ≠ some .release →
        let z := { y with state := .releasing, timer := none, retry := none }
        (off → s.ise.marks.get r = false → release z) ∧
        (¬off ∨ s.ise.marks.get r = true → leaves z)) ∧
      (y.state = .imaging → image = .failed y.imageTag → s.ise.latches.get r = false →
        let result : Notice := .issueResult .imageFailed y.origin i y.imageTag y.id y.work.kind r y.bay
          none none
        ∃ t, exec reply s = .next t ∧
          t.ise = { s.ise with transactions := s.ise.transactions.set i none } ∧
          (t.bay r y.bay).reservation = (if (s.bay r y.bay).reservation = some i then none
            else (s.bay r y.bay).reservation) ∧
          t.hrs = (match y.work with
            | .listener _ _ => s.hrs
            | .speaker _ k =>
              if s.hrs.slots.get k = .reserved i then
                { s.hrs with slots := s.hrs.slots.set k .free }
              else s.hrs) ∧
          (s.masked result = false → s.sli.notices.length < 15 → s.sli.noticesLostDue = false →
            ∃ hot, t.sli.noticesOut = s.sli.noticesOut ++ hot ++ [⟨n, result⟩])) ∧
      (y.state = .imaging → image ≠ .done y.imageTag → image ≠ .failed y.imageTag →
        (y.retry = some .image → asks (.image y.bay y.image) { y with retry := none } y) ∧
        (y.retry ≠ some .image → leaves y)) ∧
      (y.state = .releasing → y.releaseAsked = false → y.retry = none →
        (off → s.ise.marks.get r = false → release y) ∧
        (¬off ∨ s.ise.marks.get r = true → leaves y)) ∧
      (y.state = .releasing → y.releaseAsked = true →
        (y.retry = some .release → release y) ∧ (y.retry ≠ some .release → leaves y)) ∧
      (y.state = .takeWait → leaves y)) ∧
    ((∀ b' q, bayReportOf (reports.get b') = some q → s.ReportsNoChange r b' q) → s.now ≤ time →
      ((s.rack r).lastTakeCount = none ∨ (s.rack r).lastTakeCount = some takes →
        (∀ i y, s.transaction i = some y → y.rack ≠ r) →
        ∃ t, exec reply s = .next t ∧ t.ise = s.ise) ∧
      (∀ last : Byte, (s.rack r).lastTakeCount = some last → last ≠ takes →
        let presses := (takes.toNat + 256 - last.toNat) % 256
        let idle : Prop := ∀ i y, s.transaction i = some y → y.rack ≠ r
        (s.sli.mode = .night → idle → ∃ t, exec reply s = .next t ∧ t.ise = s.ise ∧
          (s.Queues (.takeDropped r (some presses) .night) → (s.chp.get r).temperature = .hot →
            t.sli.noticesOut = s.sli.noticesOut ++
              [⟨n, .takeDropped r (some presses) .night⟩])) ∧
        (s.sli.mode = .day → s.ise.takeRequests.get r ≠ none → idle →
          ∃ t, exec reply s = .next t ∧ t.ise = s.ise) ∧
        (∀ i y, s.sli.mode = .day → s.transaction i = some y → y.rack = r → y.state = .takeWait →
          s.ise.Apart →
          ∃ t, exec reply s = .next t ∧ t.ise =
            (if s.ise.takeRequests.get r = none then
              { s.ise with latches := s.ise.latches.set r true }
            else s.ise)) ∧
        (s.sli.mode = .day → s.ise.takeRequests.get r = none → idle → s.sli.link = .linked →
          let asked : Notice := .takeRequest r (s.rack r).defaultProgram (s.rack r).defaultKind
          ∃ t, exec reply s = .next t ∧
            t.ise = { s.ise with
              takeRequests := s.ise.takeRequests.set r (some (time + 2000000)) } ∧
            (s.sli.notices.length < 15 → s.sli.noticesLostDue = false →
              ∃ hot, t.sli.noticesOut = s.sli.noticesOut ++ hot ++ [⟨n, asked⟩])) ∧
        (s.sli.mode = .day → s.ise.takeRequests.get r = none → idle → s.sli.link = .standalone →
          (s.rack r).defaultProgram = none →
          ∃ t, exec reply s = .next t ∧ t.ise = s.ise ∧
            (s.masked (.takeDropped r none .noDefault) = false → s.sli.notices.length < 15 →
              s.sli.noticesLostDue = false → ∃ hot, t.sli.noticesOut = s.sli.noticesOut ++ hot ++
                [⟨n, .takeDropped r none .noDefault⟩]))))

/-- CHARGE_ACK for the CHARGE in flight of a present rack (R127, R147, R162, R163): the levels become the acknowledged
plan, bad levels make it unknown, a transaction in RELEASING whose bay they show at OFF has its RELEASE asked, and a
plan that still differs is asked for again. -/
def Obligations.ChargeAckIsStored : Prop :=
  ∀ (s : State) (time : Time) (r : Fin 8) (asked : Table 24 ChargeLevel) (timer : Option Time)
    (levels : List Byte),
    s.resetHeld = false → s.rlc.receive = .hunt → s.rlc.inFlight = some ⟨⟨r, .charge asked⟩, timer, false⟩ →
    (s.rack r).present = true → levels.length = 24 →
    let payload := placeBytes r ++ levels
    ∃ t, exec (.chargeAck time payload) s = .next t ∧
      t.rack r = { s.rack r with
        link := .online, missCount := 0, replies := bump (s.rack r).replies } ∧
      (t.chp.get r).acknowledged = ackLevelsOf payload ∧
      (t.chp.get r).plan = (s.chp.get r).plan ∧
      (t.chp.get r).badAcks =
        (if (ackLevelsOf payload).isSome then (s.chp.get r).badAcks
        else bump (s.chp.get r).badAcks) ∧
      (ackLevelsOf payload ≠ some (s.chp.get r).plan →
        (t.chp.get r).lastAsked = some (s.chp.get r).plan ∧
          (t.chp.get r).chargesAsked = bump (s.chp.get r).chargesAsked ∧
          (⟨r, .charge (s.chp.get r).plan⟩ ∈ t.rlc.queue ∨
            t.rlc.inFlight = some ⟨⟨r, .charge (s.chp.get r).plan⟩, none, false⟩ ∨
            t.rlc.pendingCharge.get r = some (s.chp.get r).plan)) ∧
      (ackLevelsOf payload = some (s.chp.get r).plan →
        ((s.chp.get r).lastAsked = none ∨ (s.chp.get r).lastAsked = some (s.chp.get r).plan) →
        (t.chp.get r).lastAsked = (s.chp.get r).lastAsked ∧
          (t.chp.get r).chargesAsked = (s.chp.get r).chargesAsked) ∧
      ((∀ i y, s.transaction i = some y → y.rack ≠ r) → t.ise = s.ise) ∧
      (∀ i y, s.ise.Apart → s.transaction i = some y → y.rack = r →
        let due : Prop := y.state = .releasing ∧ y.releaseAsked = false ∧ s.ise.marks.get r = false ∧
          ∃ l, ackLevelsOf payload = some l ∧ l.get y.bay = .off
        let request : RackRequest := .release y.bay y.imageTag
        (¬due → t.ise = s.ise) ∧
        (due →
          (t.ise = { s.ise with
              marks := s.ise.marks.set r true
              transactions := s.ise.transactions.set i (some
                { y with retry := none, releaseAsked := true }) } ∧
            (⟨r, request⟩ ∈ t.rlc.queue ∨ t.rlc.inFlight = some ⟨⟨r, request⟩, none, false⟩)) ∨
          t.ise = { s.ise with
            transactions := s.ise.transactions.set i (some
              { y with retry := some .release, releaseAsked := true }) }) ∧
        (due → s.rlc.Sound → s.rlc.queue.length < 16 → t.ise.marks.get r = true)) ∧
      (∀ r', r' ≠ r → t.chp.get r' = s.chp.get r') ∧ t.rlc.bays = s.rlc.bays ∧ t.hrs = s.hrs ∧
      t.ap = s.ap ∧ t.sources = s.sources ∧ t.programs = s.programs

/-- IMAGE_ACK and RELEASE_ACK for the exchange in flight of a transaction (R146, R147): the exchange mark
clears; an IMAGE ACK that names another bay or tag sets the retry; a RELEASE ACK that names the bay brings
TAKE-WAIT with its timer of 30 s, and one that does not asks for the RELEASE again. -/
def Obligations.AcksMoveTransactions : Prop :=
  ∀ (s : State) (time : Time) (r : Fin 8) (timer : Option Time) (i : Fin 4) (x : Transaction)
    (bay named tag : Byte),
    s.resetHeld = false → s.now ≤ time → s.rlc.receive = .hunt → s.rlc.Sound → s.ise.Apart →
    s.transaction i = some x → x.rack = r → (s.rack r).present = true → s.rlc.queue.length < 16 →
    bay = .ofNat 8 x.bay.val →
    (s.rlc.inFlight = some ⟨⟨r, .image x.bay x.image⟩, timer, false⟩ → x.image.tag = x.imageTag →
      x.state = .imaging →
      ∃ t, exec (.imageAck time (placeBytes r ++ [named, tag])) s = .next t ∧
        t.ise = { s.ise with
          marks := s.ise.marks.set r false
          transactions := s.ise.transactions.set i (some
            (if named = bay ∧ tag = x.imageTag then x else { x with retry := some .image })) } ∧
        t.hrs = s.hrs ∧ t.rlc.bays = s.rlc.bays ∧ t.chp = s.chp ∧ t.ap = s.ap ∧
        (s.sli.Settled → t.sli.noticesOut = s.sli.noticesOut)) ∧
    (s.rlc.inFlight = some ⟨⟨r, .release x.bay x.imageTag⟩, timer, false⟩ → x.state = .releasing →
      ∃ t, exec (.releaseAck time (placeBytes r ++ [named])) s = .next t ∧
        t.ise = { s.ise with
          marks := s.ise.marks.set r (decide (named ≠ bay))
          transactions := s.ise.transactions.set i (some
            (if named = bay then { x with state := .takeWait, timer := some (time + 30000000) }
            else { x with retry := none, releaseAsked := true })) } ∧
        t.hrs = s.hrs ∧ t.rlc.bays = s.rlc.bays ∧ t.chp = s.chp ∧ t.ap = s.ap ∧
        (s.sli.Settled → t.sli.noticesOut = s.sli.noticesOut))

/-- REPLY_TIMEOUT for a present rack (R126, R128, R129, R154, R164): the miss count rises; at 3 the rack, whatever the
request, is OFFLINE, its bays unknown, its other requests, transaction, take request and latch gone. Before that the
end is handed back: a POLL is done with, a CHARGE is judged again (R163), an IMAGE sets its transaction's retry (R146),
and a RELEASE is asked again while the rack is ONLINE (R147). A POLL whose rack has left service since it started
leaves link state and miss count (R124); that it raises TIMEOUTS is log 14. That one open choice is used up is log 2,
and that no take request is left where a latched press stood is log 10. -/
def Obligations.ThirdMissTakesRackOffline : Prop :=
  (∀ (s : State) (r : Fin 8) (request : RackRequest) (due : Time), s.resetHeld = false →
    s.rlc.inFlight = some ⟨⟨r, request⟩, some due, false⟩ → s.now ≤ due → (s.rack r).present = true →
    (request = .poll → (s.rack r).missCount ≤ 1 ∨ (s.rack r).link = .offline →
      exec .replyTimeout s = .next (State.startTransmission { s with
        now := due
        choices := s.choices.drop 1
        rlc := RackController.startExchange { s.rlc with
          inFlight := none
          racks := s.rlc.racks.modify r fun k =>
            { k with timeouts := bump k.timeouts, missCount := min 3 (k.missCount + 1) } } })) ∧
    ((s.rack r).missCount = 2 → (s.rack r).link ≠ .offline → s.ise.Apart →
      ∃ t, exec .replyTimeout s = .next t ∧ t.now = due ∧
        t.rack r = { s.rack r with
          link := .offline, missCount := 3, timeouts := bump (s.rack r).timeouts
          lastTakeCount := none } ∧
        (∀ b, (t.bay r b).occupancy = .unknown ∧ (t.bay r b).charger = .idle ∧
          (t.bay r b).latch = .locked ∧ (t.bay r b).image = .none ∧ (t.bay r b).foreign = false) ∧
        (∀ x ∈ t.rlc.queue, x.rack = r → x.request = .poll) ∧
        t.rlc.pendingCharge.get r = none ∧
        (∀ i x, t.transaction i = some x → x.rack ≠ r) ∧
        t.ise.takeRequests.get r = none ∧ t.ise.latches.get r = false ∧ t.ise.marks.get r = false ∧
        (t.chp.get r).plan = allOff ∧ (t.chp.get r).acknowledged = none ∧
        (t.chp.get r).lastAsked = none ∧ t.sli.rackOffline.get r = true ∧
        (∀ r', r' ≠ r → t.rack r' = s.rack r' ∧ t.rlc.bays.get r' = s.rlc.bays.get r' ∧
          t.chp.get r' = s.chp.get r') ∧
        t.ap = s.ap ∧ t.sources = s.sources ∧ t.programs = s.programs ∧ t.ats = s.ats) ∧
    ((s.rack r).missCount ≤ 1 ∨ (s.rack r).link = .offline → s.ise.Apart →
      let after (t : State) : Prop := exec .replyTimeout s = .next t ∧ t.now = due ∧
        t.rlc.racks = s.rlc.racks.modify r (fun k =>
          { k with timeouts := bump k.timeouts, missCount := min 3 (k.missCount + 1) }) ∧
        t.rlc.bays = s.rlc.bays ∧ t.hrs = s.hrs ∧ t.ap = s.ap ∧
        (s.sli.Settled → t.sli.noticesOut = s.sli.noticesOut)
      let asked (t : State) (x : RackRequest) : Prop := ⟨r, x⟩ ∈ t.rlc.queue ∨
        t.rlc.inFlight = some ⟨⟨r, x⟩, none, false⟩
      (∀ levels, request = .charge levels →
        let p := s.chp.get r
        let wants : Prop := p.acknowledged ≠ some p.plan ∨
          (p.lastAsked ≠ none ∧ p.lastAsked ≠ some p.plan)
        ∃ t, after t ∧ t.ise = s.ise ∧
          ((s.rack r).link = .online → wants →
            t.chp = s.chp.set r { p with
              lastAsked := some p.plan, chargesAsked := bump p.chargesAsked } ∧
            (asked t (.charge p.plan) ∨ t.rlc.pendingCharge.get r = some p.plan)) ∧
          ((s.rack r).link ≠ .online ∨ ¬wants → t.chp = s.chp)) ∧
      (∀ bay content, request = .image bay content →
        let mine (x : Transaction) : Prop := x.rack = r ∧ x.imageTag = content.tag ∧ x.state = .imaging
        ((∀ i x, s.transaction i = some x → ¬mine x) → ∃ t, after t ∧ t.chp = s.chp ∧
          t.ise = { s.ise with marks := s.ise.marks.set r false }) ∧
        (∀ i x, s.transaction i = some x → mine x → ∃ t, after t ∧ t.chp = s.chp ∧
          t.ise = { s.ise with
            marks := s.ise.marks.set r false
            transactions := s.ise.transactions.set i (some { x with retry := some .image }) })) ∧
      (∀ bay tag, request = .release bay tag →
        let mine (x : Transaction) : Prop := x.rack = r ∧ x.imageTag = tag ∧ x.state = .releasing
        ((s.rack r).link ≠ .online ∨ (∀ i x, s.transaction i = some x → ¬mine x) →
          ∃ t, after t ∧ t.chp = s.chp ∧
            t.ise = { s.ise with marks := s.ise.marks.set r false }) ∧
        (∀ i x, (s.rack r).link = .online → s.transaction i = some x → mine x → s.rlc.Sound →
          s.rlc.queue.length < 16 → ∃ t, after t ∧ t.chp = s.chp ∧
            t.ise = { s.ise with
              marks := s.ise.marks.set r true
              transactions := s.ise.transactions.set i (some
                { x with retry := none, releaseAsked := true }) } ∧
            asked t (.release x.bay x.imageTag))))) ∧
  (∀ (s : State) (r : Fin 8) (due : Time), s.resetHeld = false →
    s.rlc.inFlight = some ⟨⟨r, .poll⟩, some due, true⟩ → s.now ≤ due →
    exec .replyTimeout s = .next (State.startTransmission { s with
      now := due
      choices := s.choices.drop 1
      rlc := RackController.startExchange { s.rlc with
        inFlight := none
        racks := s.rlc.racks.modify r fun k => { k with timeouts := bump k.timeouts } } }))

/-- IMAGING_TIMER_EXPIRY, TAKE_WAIT_TIMER_EXPIRY and CANCEL with no press latched (R146, R148, R149, R150): the
transaction is gone, its bay's and slot's reservations are cleared, and ISSUE RESULT tells the outcome. That the
clock stands at the timer's due time is the model's (log 1). -/
def Obligations.TransactionEndsClearItsPlaces : Prop :=
  ∀ (c : Instr) (s : State) (i : Fin 4) (x : Transaction) (outcome : IssueOutcome) (time : Time),
    s.resetHeld = false → s.transaction i = some x → s.ise.latches.get x.rack = false →
    s.now ≤ time →
    ((c = .imagingTimerExpiry i ∧ x.state = .imaging ∧ x.timer = some time ∧
        outcome = .imageFailed) ∨
      (c = .takeWaitTimerExpiry i ∧ x.state = .takeWait ∧ x.timer = some time ∧
        outcome = .notTaken) ∨
      (∃ tag, c = .cancel time tag (placeBytes x.rack) ∧ x.state ≠ .takeWait ∧ s.TakesOrders ∧
        s.ise.Apart ∧ outcome = .cancelled)) →
    ∃ t, exec c s = .next t ∧ t.now = time ∧
      t.ise = { s.ise with transactions := s.ise.transactions.set i none } ∧
      (∀ r b, t.bay r b =
        if r = x.rack ∧ b = x.bay ∧ (s.bay r b).reservation = some i then
          { s.bay r b with reservation := none }
        else s.bay r b) ∧
      t.hrs = (match x.work with
        | .listener _ _ => s.hrs
        | .speaker _ k =>
          if s.hrs.slots.get k = .reserved i then
            { s.hrs with slots := s.hrs.slots.set k .free }
          else s.hrs) ∧
      (∀ r, r ≠ x.rack → t.chp.get r = s.chp.get r) ∧ t.ap = s.ap ∧ t.sources = s.sources ∧
      t.programs = s.programs ∧ t.ats = s.ats ∧
      (s.Queues (.issueResult outcome x.origin i x.imageTag x.id x.work.kind x.rack x.bay none none) →
        t.sli.noticesOut = s.sli.noticesOut ++ [⟨s.ap.superframe,
          .issueResult outcome x.origin i x.imageTag x.id x.work.kind x.rack x.bay none none⟩]) ∧
      (∀ tag, c = .cancel time tag (placeBytes x.rack) →
        t.sli.answersOut = s.sli.answersOut ++ [⟨tag, .done, placeBytes i⟩])

/-- REACTION_TIMER_EXPIRY (R152): no default that serves, BUSY, NO HANDSET, NO SLOT, and the default transaction with
its TAKE DEFAULTED. SILENCE_TIMER_EXPIRY (R59, R153, R177): STANDALONE with the tap off, and a pending take request
falls back as at its own expiry. -/
def Obligations.TakeRequestAndSilenceTimers : Prop :=
  (∀ (s : State) (r : Fin 8) (due : Time), s.resetHeld = false →
    s.ise.takeRequests.get r = some due → s.now ≤ due → s.EntriesDistinct →
    let kind := (s.rack r).defaultKind
    let dropped (reason : TakeDropReason) : Prop :=
      s.masked (.takeDropped r none reason) = false → s.sli.notices.length < 16 →
      exec (.reactionTimerExpiry r) s = .next (State.startTransmission { s with
        now := due
        ise := { s.ise with takeRequests := s.ise.takeRequests.set r none }
        sli := { s.sli with
          notices := s.sli.notices ++ [⟨s.ap.superframe, .takeDropped r none reason⟩] } })
    let busy : Prop := (∃ i x, s.transaction i = some x ∧ x.rack = r) ∨ s.ise.marks.get r = true ∨
      ∀ i, s.transaction i ≠ none
    let slotless : Prop := kind = .mic ∧ ∀ k, s.hrs.slots.get k ≠ .free
    ((s.rack r).defaultProgram = none → dropped .noDefault) ∧
    (∀ p, (s.rack r).defaultProgram = some p → (s.program p).isOpen = false → dropped .noDefault) ∧
    (∀ p, (s.rack r).defaultProgram = some p → (s.program p).isOpen = true →
      (busy → dropped .busy) ∧
      (¬busy → (∀ b, ¬s.Candidate r kind b) → dropped .noHandset) ∧
      (∀ b, ¬busy → s.Candidate r kind b → slotless → dropped .noSlot) ∧
      (∀ i b work, ¬busy → s.transaction i = none → (∀ j, j < i → s.transaction j ≠ none) →
        s.Candidate r kind b → (∀ b', s.Candidate r kind b' →
          (s.bay r b').battery < (s.bay r b).battery ∨
            ((s.bay r b').battery = (s.bay r b).battery ∧ b ≤ b')) →
        ((kind = .receiver ∧ work = .listener p (s.program p).tour) ∨
          (∃ k, kind = .mic ∧ s.hrs.slots.get k = .free ∧
            (∀ k', k' < k → s.hrs.slots.get k' ≠ .free) ∧ work = .speaker (s.program p).tour k)) →
        ∃ t y, exec (.reactionTimerExpiry r) s = .next t ∧ t.now = due ∧
          t.transaction i = some y ∧ y.state = .imaging ∧ y.origin = .default ∧ y.rack = r ∧
          y.bay = b ∧ (s.bay r b).occupancy = .occupied y.id (s.bay r b).battery ∧
          y.work = work ∧ y.imageTag = s.ise.sequenceNumber + 1 ∧
          y.timer = some (due + 1000000) ∧ y.releaseAsked = false ∧
          (∀ j, j ≠ i → t.transaction j = s.transaction j) ∧
          t.ise.sequenceNumber = s.ise.sequenceNumber + 1 ∧
          t.ise.takeRequests = s.ise.takeRequests.set r none ∧ t.ise.latches = s.ise.latches ∧
          t.bay r b = { s.bay r b with reservation := some i } ∧
          (∀ r' b', r' ≠ r ∨ b' ≠ b → t.bay r' b' = s.bay r' b') ∧
          t.hrs = (match work with
            | .listener _ _ => s.hrs
            | .speaker _ k => { s.hrs with slots := s.hrs.slots.set k (.reserved i) }) ∧
          t.ap = s.ap ∧ t.programs = s.programs ∧ t.ats = s.ats ∧
          (s.Queues (.takeDefaulted r i work b y.id) →
            t.sli.noticesOut = s.sli.noticesOut ++
              [⟨s.ap.superframe, .takeDefaulted r i work b y.id⟩])))) ∧
  (∀ (s : State) (due : Time), s.resetHeld = false → s.sli.silenceTimer = some due → s.now ≤ due →
    let alone : State := { s with
      now := due
      tap := none
      sli := { s.sli with link := .standalone, silenceTimer := none } }
    ((∀ r, s.ise.takeRequests.get r = none) →
      exec .silenceTimerExpiry s = .next (State.startTransmission alone)) ∧
    (∀ r d, s.ise.takeRequests.get r = some d →
      (∀ r', r' ≠ r → s.ise.takeRequests.get r' = none) →
      exec .silenceTimerExpiry s = exec (.reactionTimerExpiry r) { alone with
        ise := { s.ise with takeRequests := s.ise.takeRequests.set r (some due) } }))

/-! ## Orders -/

/-- R170: an order answered with any code but DONE, DONE-CLAMPED and ACCEPTED changes nothing; an undefined code
is answered MALFORMED; an order beside sixteen waiting answers or a pending reset is counted and not taken. -/
def Obligations.RefusedOrdersChangeNothing : Prop :=
  (∀ (code tag : Byte) (params : List Byte) (s : State),
    let r := orderOf code tag params s
    r.code ≠ .done → r.code ≠ .doneClamped → r.code ≠ .accepted → r.state = s ∧ r.data = []) ∧
  (∀ (s : State) (time : Time) (tag code : Byte) (params : List Byte),
    s.TakesOrders → params.length ≤ 338 → code = 0 ∨ 0x17 < code.toNat →
    exec (.unknownOrderCode time tag code params) s =
      .next (s.afterOrder time tag .malformed [] id)) ∧
  (∀ (s : State) (time : Time) (tag code : Byte) (params : List Byte),
    s.resetHeld = false → s.sli.receive = .hunt → params.length ≤ 338 → s.now ≤ time →
    16 ≤ s.sli.answers.length ∨ s.sli.resetPending.isSome = true →
    exec (.unknownOrderCode time tag code params) s = .next (State.startTransmission { s with
      now := time
      sli := { s.sli with
        link := .linked
        silenceTimer := some (time + 3000000)
        orderOverruns := bump s.sli.orderOverruns } }))

/-- SET_SOURCE (R18, R19): a mic source takes five fields; a stream takes nine, and ENABLED acts when it changes. That
idle detection 1 is on is the model's (log 44). -/
def Obligations.SetSourceWritesRecord : Prop :=
  ∀ (s : State) (time : Time) (tag : Byte) (k : Fin 24) (g on off a h : Nat) (en idle : Bool)
    (pattern mask : BitVec 16),
    s.TakesOrders → g < 65536 → on < 65536 → off < 65536 → a < 256 → h < 256 →
    let order : Instr := .setSource time tag (placeBytes k ++ wideBytes g ++ wideBytes on ++
      wideBytes off ++ byteBytes a ++ byteBytes h ++ flagBytes en ++ flagBytes idle ++
      wordBytes pattern ++ wordBytes mask)
    let code : AnswerCode := if g ≤ 4095 ∧ on ≤ 32767 ∧ off ≤ on ∧ 1 ≤ a ∧ a ≤ 4 then .done
      else .doneClamped
    let after (f : Source → Source) : Host.Outcome State Fault Refusal :=
      .next (s.afterOrder time tag code [] fun u => { u with
        sources := u.sources.modify k fun r => f { r with
          gain := min 4095 g, onThreshold := min 32767 on, offThreshold := min off (min 32767 on)
          attack := max 1 (min 4 a), hang := h } })
    (k.val < 16 → exec order s = after id) ∧
    (16 ≤ k.val → (s.source k).enabled = en → exec order s = after fun r =>
      { r with idleDetection := idle, idlePattern := pattern, idleMask := mask }) ∧
    (16 ≤ k.val → (s.source k).enabled = false → en = true → exec order s = after fun r =>
      { r with
        idleDetection := idle, idlePattern := pattern, idleMask := mask, enabled := true
        queue := [], stream := .priming, referenceSeq := none }) ∧
    (16 ≤ k.val → (s.source k).enabled = true → en = false → exec order s = after fun r =>
      { r with
        idleDetection := idle, idlePattern := pattern, idleMask := mask, enabled := false
        detector := .silent, attackCounter := 0, hangCounter := 0, lastLevel := 0, store := []
        queue := [], stream := .priming, referenceSeq := none, underrunRun := 0, highMarkRun := 0 })

/-- SET_PROGRAM (R39, R40) and SET_MIX (R41, R42): the record's configuration, and the whole mix list. -/
def Obligations.SetProgramAndMixWriteRecord : Prop :=
  (∀ (s : State) (time : Time) (tag : Byte) (p : Fin 32) (tour : Fin 16) (label : Label)
    (tier duck amplitude half : Nat) (allCall holdOpen test : Bool),
    s.TakesOrders → tier < 256 → duck < 65536 → amplitude < 65536 → half < 256 →
    (∀ c ∈ [label.c0, label.c1, label.c2, label.c3], 0x20 ≤ c.toNat ∧ c.toNat ≤ 0x7E) →
    ((s.program p).isOpen = true → (s.program p).tour = tour) →
    (allCall = true → ∀ q, q ≠ p → (s.program q).allCall = false) →
    exec (.setProgram time tag (placeBytes p ++ placeBytes tour ++
        [label.c0, label.c1, label.c2, label.c3] ++ byteBytes tier ++ flagBytes allCall ++
        flagBytes holdOpen ++ flagBytes test ++ wideBytes duck ++ wideBytes amplitude ++
        byteBytes half)) s =
      .next (s.afterOrder time tag
        (if tier ≤ 3 ∧ duck ≤ 1024 ∧ amplitude ≤ 32767 ∧ 1 ≤ half ∧ half ≤ 80 then .done
        else .doneClamped) []
        fun u => { u with programs := u.programs.modify p fun r => { r with
          tour := tour, label := label, tier := min 3 tier, allCall := allCall
          holdOpen := holdOpen, test := test, duckGain := min 1024 duck
          testAmplitude := min 32767 amplitude, testHalfPeriod := max 1 (min 80 half)
          patternPhase :=
            if (test = true ∧ r.test = false) ∨ max 1 (min 80 half) ≠ r.testHalfPeriod then 0
            else r.patternPhase } })) ∧
  (∀ (s : State) (time : Time) (tag : Byte) (p : Fin 32) (entries : List MixEntry),
    s.TakesOrders → entries.length ≤ 4 → (∀ e ∈ entries, e.gain < 65536 ∧ e.duckClass < 256) →
    exec (.setMix time tag (placeBytes p ++ listBytes (fun e => placeBytes e.source ++
        wideBytes e.gain ++ byteBytes e.duckClass) entries)) s =
      .next (s.afterOrder time tag
        (if ∀ e ∈ entries, e.gain ≤ 4095 ∧ e.duckClass ≤ 3 then .done else .doneClamped) []
        fun u => { u with programs := u.programs.modify p fun r => { r with
          mixList := entries.map fun e =>
            ⟨e.source, min 4095 e.gain, min 3 e.duckClass⟩ } }))

/-- TAP (R55) and OPEN (R43, R109). -/
def Obligations.TapAndOpenOrders : Prop :=
  ∀ (s : State) (time : Time) (tag program period : Byte) (p : Fin 32), s.TakesOrders →
    let tap (mode : Byte) : Instr := .tap time tag [program, mode, period]
    let set (code : AnswerCode) (v : Option TapRecord) : Host.Outcome State Fault Refusal :=
      .next (s.afterOrder time tag code [] fun u => { u with tap := v })
    exec (tap 0) s = set .done none ∧
    (program = .ofNat 8 p.val → s.sli.mode = .day → (s.program p).isOpen = true →
      exec (tap 1) s = set .done (some ⟨p, .levelsOnce⟩) ∧
      exec (tap 2) s = set (if period = 0 then .doneClamped else .done)
        (some ⟨p, .levelsEvery (max 1 period.toNat)⟩) ∧
      exec (tap 3) s = set .done (some ⟨p, .audio⟩)) ∧
    exec (.openProgram time tag (placeBytes p)) s =
      .next (s.afterOrder time tag .done [] fun u => { u with
        programs := u.programs.modify p fun r =>
          if r.isOpen then r
          else { r with isOpen := true, limiterGain := 1024, patternPhase := 0, level := 0 } })

/-- CLOSE (R43, R59, R78, R110 to R112): an OPEN program is closed, gives up its slot or its place in the queue,
its tap ends, its receivers are RECALLED, its transactions before TAKE-WAIT end, and the answer carries both
counts. The order of the ends is the model's (log 12), and no clause rests on it. -/
def Obligations.CloseRecallsListeners : Prop :=
  ∀ (s : State) (time : Time) (tag : Byte) (p : Fin 32), s.TakesOrders →
    let listens (e : Fin 512) : Bool :=
      (s.entry e).any fun x => x.state.work.bind Assignment.program == some p
    ((s.program p).isOpen = false →
      exec (.closeProgram time tag (placeBytes p)) s =
        .next (s.afterOrder time tag .done [0, 0, 0] id)) ∧
    ((s.program p).isOpen = true →
      ∃ t, exec (.closeProgram time tag (placeBytes p)) s = .next t ∧
        t.programs = s.programs.modify p (fun r => { r with isOpen := false }) ∧
        t.tap = (match s.tap with
          | some x => if x.program = p then none else some x
          | none => none) ∧
        (∀ e x, s.entry e = some x →
          t.entry e = some (if listens e then { x with state := .recalled } else x)) ∧
        t.hrs.listeners = s.hrs.listeners.set p 0 ∧
        (∀ d, (s.ats.perProgram.get p).holderSlot = some d → t.ats.holders = s.ats.holders.set d none) ∧
        ((s.ats.perProgram.get p).holderSlot = none →
          t.ats.holders = s.ats.holders ∧ t.ats.waitQueue = s.ats.waitQueue.filter (· != p)) ∧
        (∀ i x, t.transaction i = some x → x.work.program = some p → x.state = .takeWait) ∧
        t.sli.answersOut = s.sli.answersOut ++ [⟨tag, .done,
          wideBytes ((List.finRange 512).countP listens) ++
            byteBytes ((List.finRange 4).countP fun i => (s.transaction i).any fun x =>
              x.work.program == some p && x.state != .takeWait)⟩] ∧
        t.ap = s.ap ∧ t.sources = s.sources ∧ t.trc = s.trc)

/-- RECALL in DAY (R117, R118): a recall held for the tour is restarted, another is added while fewer than four
are held, and a fifth is answered BUSY. -/
def Obligations.RecallOrderIsTaken : Prop :=
  ∀ (s : State) (time : Time) (tag : Byte) (tour : Fin 16),
    s.TakesOrders → s.sli.mode = .day → (∀ o ∈ s.trc.recalls, 0 < o.countdown) →
    let after (recalls : List RecallOrder) (taken : RecallTaken) : Prop :=
      ∃ t, exec (.recall time tag (placeBytes tour)) s = .next t ∧
        t.trc = { s.trc with recalls := recalls } ∧
        t.sli.answersOut = s.sli.answersOut ++ [⟨tag, .done, taken.code⟩] ∧
        (s.Queues (.recall tour .order taken none) →
          t.sli.noticesOut = s.sli.noticesOut ++
            [⟨s.ap.superframe, .recall tour .order taken none⟩]) ∧
        t.ap = s.ap ∧ t.ats = s.ats ∧ t.hrs = s.hrs ∧ t.rlc = s.rlc ∧ t.ise = s.ise
    (∀ before old rest, s.trc.recalls = before ++ old :: rest → old.tour = tour →
      (s.trc.recalls.map RecallOrder.tour).Nodup →
      after (before ++ ⟨tour, .order, 50⟩ :: rest) .restarted) ∧
    (tour ∉ s.trc.recalls.map RecallOrder.tour → s.trc.recalls.length < 4 →
      after (s.trc.recalls ++ [⟨tour, .order, 50⟩]) .added) ∧
    (tour ∉ s.trc.recalls.map RecallOrder.tour → 4 ≤ s.trc.recalls.length →
      exec (.recall time tag (placeBytes tour)) s = .next (s.afterOrder time tag .busy [] id))

/-- The key recognizers: the filtered key (R113), the step with its window (R114, R115), and what an arrival gives
its slot's recognizer: a good block its key, a missing block the last raw key, an unbound slot's nothing (R28, R29,
R113). A pattern raises a recall for the microphone's tour, taken or dropped with its notice (R114, R117). -/
def Obligations.KeyPatternRaisesRecall : Prop :=
  (∀ (r : Recognizer) (raw : KeyState), r.disagreement ≤ 2 →
    let changed : Prop := raw ≠ r.key ∧ r.disagreement = 2
    let f : KeyState := if r.disagreement = 2 then raw else r.key
    let run : Nat := if raw = r.key ∨ r.disagreement = 2 then 0 else r.disagreement + 1
    let goes (state : RecognizerState) (press gap window : Nat) (raised : Bool) : Prop :=
      r.takeKey raw = (⟨state, f, run, press, gap, window⟩, raised)
    (r.state = .idle → r.key = .up →
      (changed → goes .press1 1 0 1 false) ∧
      (¬changed → goes .idle r.press r.gapCount r.window false)) ∧
    (r.state = .press1 ∨ r.state = .gap ∨ r.state = .press2 → 150 ≤ r.window →
      goes (if f = .up then .idle else .holdoff) 0 0 0 false) ∧
    (r.state = .press1 → r.key = .down → r.window < 150 →
      (¬changed → r.press < 50 → goes .press1 (r.press + 1) r.gapCount (r.window + 1) false) ∧
      (¬changed → 50 ≤ r.press → goes .holdoff 0 0 0 false) ∧
      (changed → 20 ≤ r.press → r.press ≤ 50 → goes .gap 0 1 (r.window + 1) false) ∧
      (changed → r.press < 20 → goes .idle 0 0 0 false)) ∧
    (r.state = .gap → r.key = .up → r.window < 150 →
      (¬changed → r.gapCount < 50 → goes .gap r.press (r.gapCount + 1) (r.window + 1) false) ∧
      (¬changed → 50 ≤ r.gapCount → goes .idle 0 0 0 false) ∧
      (changed → 10 ≤ r.gapCount → r.gapCount ≤ 50 → goes .press2 1 0 (r.window + 1) false) ∧
      (changed → r.gapCount < 10 → goes .press1 1 0 1 false)) ∧
    (r.state = .press2 → r.key = .down → r.window < 150 →
      (¬changed → r.press < 50 → goes .press2 (r.press + 1) r.gapCount (r.window + 1) false) ∧
      (¬changed → 50 ≤ r.press → goes .holdoff 0 0 0 false) ∧
      (changed → 20 ≤ r.press → r.press ≤ 50 → goes .idle 0 0 0 true) ∧
      (changed → r.press < 20 → goes .idle 0 0 0 false)) ∧
    (r.state = .holdoff → r.key = .down →
      (changed → goes .idle 0 0 0 false) ∧
      (¬changed → goes .holdoff r.press r.gapCount r.window false))) ∧
  (∀ (s : State) (k : Fin 16) (src : Fin 24), s.resetHeld = false → s.ap.onAir = true →
    src.val = k.val → s.ap.micMarks.get k ≠ some s.ap.superframe →
    let n := s.ap.superframe
    let arrival (status : Byte) (content : List Byte) : Instr :=
      .uplinkArrival ([.ofNat 8 k.val, status] ++ wordBytes n ++ content)
    (∀ status content, (∀ e, s.hrs.slots.get k ≠ .bound e) →
      ∃ t, exec (arrival status content) s = .next t ∧ t.trc = s.trc ∧ t.sources = s.sources ∧
        t.handovers = s.handovers) ∧
    (∀ e x w, s.hrs.slots.get k = .bound e → s.entry e = some x → x.state.work = some w →
      (∀ status content, status ≠ 0 →
        ∃ t, exec (arrival status content) s = .next t ∧ t.trc.recognizers =
          s.trc.recognizers.set k
            ((s.trc.recognizers.get k).takeKey (s.source src).lastRawKey).1) ∧
      (∀ (key battery : Byte) (samples : List Byte), samples.length = 320 →
        let good := arrival 0 (idBytes x.id ++ [key, battery] ++ samples)
        let out := (s.trc.recognizers.get k).takeKey (if key = 0 then .up else .down)
        (out.2 = false → ∃ t, exec good s = .next t ∧
          t.trc = { s.trc with recognizers := s.trc.recognizers.set k out.1 } ∧
          (s.sli.Settled → t.sli.noticesOut = s.sli.noticesOut)) ∧
        (out.2 = true → (∀ o ∈ s.trc.recalls, 0 < o.countdown) →
          let after (recalls : List RecallOrder) (notice : Notice) : Prop :=
            ∃ t, exec good s = .next t ∧
              t.trc = ⟨s.trc.recognizers.set k out.1, recalls⟩ ∧
              (s.Queues notice → t.sli.noticesOut = s.sli.noticesOut ++ [⟨n, notice⟩])
          (∀ before old rest, s.trc.recalls = before ++ old :: rest → old.tour = w.tour →
            (s.trc.recalls.map RecallOrder.tour).Nodup →
            after (before ++ ⟨w.tour, .key, 50⟩ :: rest)
              (.recall w.tour .key .restarted (some (k, x.id)))) ∧
          (w.tour ∉ s.trc.recalls.map RecallOrder.tour → s.trc.recalls.length < 4 →
            after (s.trc.recalls ++ [⟨w.tour, .key, 50⟩])
              (.recall w.tour .key .added (some (k, x.id)))) ∧
          (w.tour ∉ s.trc.recalls.map RecallOrder.tour → 4 ≤ s.trc.recalls.length →
            after s.trc.recalls (.recallDropped w.tour k x.id))))))

/-- SET_FILTER and VALIDATE_FILTER (R96), SET_TIMING (R80, R88, R172) and MASK (R175), which sends the notices of the
raised conditions it unmasks, in the order of the table of R174, racks ascending. A notice handed over by
`sendNoticeAt` (R173), here by MISS_COUNTDOWN_EXPIRY, is dropped where its kind is MASKED, joins the queue, or beside
sixteen is dropped and counted and raises NOTICES LOST with its due mark (R174). TAKE REQUEST is not handed over this
way: R151 queues it whatever its mask entry, and TakesAndPresses says so. That auto-enrol 1 is on is the model's
(log 44), and so is AP's number in the MISSING notice of a handset never heard from (log 15). -/
def Obligations.SettingsMaskAndNotices : Prop :=
  (∀ (s : State) (time : Time) (tag : Byte) (e : Fin 8) (f : FilterEntry), s.TakesOrders →
    exec (.setFilter time tag (placeBytes e ++ flagBytes f.used ++ idBytes f.pattern ++
        idBytes f.mask ++ f.kind.code)) s =
      .next (s.afterOrder time tag .done [] fun u => { u with
        hrs := { u.hrs with filter := u.hrs.filter.set e f, filterValid := false } })) ∧
  (∀ (s : State) (time : Time) (tag : Byte), s.TakesOrders →
    exec (.validateFilter time tag []) s =
      .next (s.afterOrder time tag .done [] fun u => { u with
        hrs := { u.hrs with filterValid := true } })) ∧
  (∀ (s : State) (time : Time) (tag : Byte) (r w m : Nat) (auto : Bool), s.TakesOrders →
    r < 65536 → w < 65536 → m < 65536 →
    exec (.setTiming time tag (wideBytes r ++ wideBytes w ++ wideBytes m ++ flagBytes auto)) s =
      .next (s.afterOrder time tag
        (if r ≤ 255 ∧ 10 ≤ w ∧ w ≤ 6000 ∧ 100 ≤ m ∧ m ≤ 60000 then .done else .doneClamped) []
        fun u => { u with
          ats := { u.ats with
            releaseDelay := min 255 r, longWaitLimit := max 10 (min 6000 w) }
          hrs := { u.hrs with
            missTimeout := max 100 (min 60000 m), autoEnrol := auto } })) ∧
  (∀ (s : State) (time : Time) (tag : Byte) (m : Table 23 Bool) (fit lost : List Notice), s.TakesOrders →
    let opens (k : Fin 23) : Bool := s.sli.mask.get k && !m.get k
    (if opens 18 && s.sli.syncLost then [.syncLost] else []) ++
      (if opens 19 && s.sli.airDegraded then [.airDegraded] else []) ++
      (if opens 20 then ((List.finRange 8).filter s.sli.rackOffline.get).map .rackOffline else []) ++
      (if opens 21 then ((List.finRange 8).filter s.sli.rackHot.get).map .rackHot else []) =
      fit ++ lost →
    s.sli.notices.length + fit.length ≤ 16 →
    (lost = [] ∨ s.sli.notices.length + fit.length = 16) →
    exec (.mask time tag (tableBytes flagBytes m)) s =
      .next (s.afterOrder time tag .done [] fun u => { u with
        sli := { u.sli with
          mask := m
          notices := u.sli.notices ++ fit.map fun x => ⟨s.ap.superframe, x⟩
          noticesDropped := bumpBy lost.length s.sli.noticesDropped
          noticesLost := s.sli.noticesLost || decide (lost ≠ [])
          noticesLostDue := !m.get 22 && (s.sli.noticesLostDue || (opens 22 && s.sli.noticesLost) ||
            (decide (lost ≠ []) && !s.sli.noticesLost)) } })) ∧
  (∀ (s : State) (n : Superframe) (x : Notice),
    (s.masked x = true → s.sendNoticeAt n x = s) ∧
    (s.masked x = false → s.sli.notices.length < 16 → s.sendNoticeAt n x =
      { s with sli := { s.sli with notices := s.sli.notices ++ [⟨n, x⟩] } }) ∧
    (s.masked x = false → 16 ≤ s.sli.notices.length → s.sendNoticeAt n x = { s with
      sli := { s.sli with
        noticesDropped := bump s.sli.noticesDropped
        noticesLost := true
        noticesLostDue := s.sli.noticesLostDue || (!s.sli.noticesLost && !s.sli.mask.get 22) } })) ∧
  (∀ (s : State) (e : Fin 512) (x : RosterEntry) (w : Assignment), s.resetHeld = false →
    s.entry e = some x → x.state = .issued w 0 →
    let gone : State := { s with
      hrs := { s.hrs with entries := s.hrs.entries.set e (some { x with state := .missing w }) } }
    (s.sli.mask.get 14 = true →
      exec (.missCountdownExpiry e) s = .next gone.startTransmission) ∧
    (s.sli.mask.get 14 = false → s.sli.notices.length < 16 →
      exec (.missCountdownExpiry e) s = .next (State.startTransmission { gone with
        sli := { s.sli with notices := s.sli.notices ++
          [⟨x.lastHeard.getD s.ap.superframe, .missing x.id x.kind w x.battery⟩] } })) ∧
    (s.sli.mask.get 14 = false → 16 ≤ s.sli.notices.length →
      exec (.missCountdownExpiry e) s = .next (State.startTransmission { gone with
        sli := { s.sli with
          noticesDropped := bump s.sli.noticesDropped
          noticesLost := true
          noticesLostDue := s.sli.noticesLostDue ||
            (!s.sli.noticesLost && !s.sli.mask.get 22) } })))

/-- R102, whole: each answer of ENROL, and the entry a new handset takes. -/
def Obligations.EnrolPlacesLooseHandset : Prop :=
  ∀ (s : State) (time : Time) (tag kind : Byte) (id : HandsetId), s.TakesOrders →
    let order : Instr := .enrol time tag (idBytes id ++ [kind])
    let refused (code : AnswerCode) : Prop := exec order s = .next (s.afterOrder time tag code [] fun u => u)
    (id = 0 ∨ 1 < kind.toNat → refused .malformed) ∧
    (id ≠ 0 → kind.toNat ≤ 1 → (∃ e x, s.entry e = some x ∧ x.id = id) → refused .refused) ∧
    (id ≠ 0 → kind.toNat ≤ 1 → (∀ e x, s.entry e = some x → x.id ≠ id) →
      (∀ e, s.entry e ≠ none) → refused .busy) ∧
    (∀ e, id ≠ 0 → kind.toNat ≤ 1 → (∀ e x, s.entry e = some x → x.id ≠ id) →
      s.entry e = none → (∀ e', e' < e → s.entry e' ≠ none) →
      exec order s = .next (s.afterOrder time tag .done (wideBytes e.val) fun u => { u with
        hrs := { u.hrs with
          entries := u.hrs.entries.set e
            (some ⟨id, if kind = 0 then .receiver else .mic, .loose, 0, false, none, none⟩)
          strays := u.hrs.strays.filter fun y => y.id != id } }))

/-- ASSIGN (R77, R103), BIND (R100, R104) and FORGET (R98, R101, R105) of a handset of the roster. -/
def Obligations.RosterOrdersMoveEntries : Prop :=
  ∀ (s : State) (time : Time) (tag : Byte) (e : Fin 512) (x : RosterEntry), s.TakesOrders →
    s.entry e = some x → (∀ e' x', s.entry e' = some x' → x'.id = x.id → e' = e) →
    (∀ p, x.kind = .receiver → x.state = .loose ∨ x.state = .recalled → (s.program p).isOpen = true →
      exec (.assign time tag (idBytes x.id ++ placeBytes p)) s =
        .next (s.afterOrder time tag .done [] fun u => { u with
          hrs := { u.hrs with
            entries := u.hrs.entries.set e (some { x with
              state := .issued (.listener p (s.program p).tour) s.hrs.missTimeout
              lowBattery := false })
            listeners := u.hrs.listeners.modify p (· + 1) }
          ats := u.ats.queueRetune ⟨x.id, p⟩ })) ∧
    (∀ (tour k : Fin 16), x.kind = .mic → x.state = .loose → s.hrs.slots.get k = .free →
      let bound := .next (s.afterOrder time tag .done (placeBytes k) fun u => { u with
        hrs := { u.hrs with
          entries := u.hrs.entries.set e (some { x with
            state := .issued (.speaker tour k) s.hrs.missTimeout
            lowBattery := false })
          slots := u.hrs.slots.set k (.bound e) } })
      exec (.bind time tag (idBytes x.id ++ placeBytes tour ++ placeBytes k)) s = bound ∧
      ((∀ k', k' < k → s.hrs.slots.get k' ≠ .free) →
        exec (.bind time tag (idBytes x.id ++ placeBytes tour ++ [0xFF])) s = bound)) ∧
    ((∀ r b, x.state = .docked r b → (s.rack r).link ≠ .online) →
      (∀ i y, s.transaction i = some y → y.id ≠ x.id) →
      ∃ t, exec (.forget time tag (idBytes x.id)) s = .next t ∧ t.entry e = none ∧
        (∀ e', e' ≠ e → t.entry e' = s.entry e') ∧
        t.ats.retuneQueue = s.ats.retuneQueue.filter (fun o => o.id != x.id) ∧
        (∀ p tour, x.state.work = some (.listener p tour) →
          t.hrs.listeners = s.hrs.listeners.modify p (· - 1) ∧ t.hrs.slots = s.hrs.slots) ∧
        (∀ tour k, x.state.work = some (.speaker tour k) →
          t.hrs.slots = s.hrs.slots.set k .free ∧ t.hrs.listeners = s.hrs.listeners ∧
          t.trc.recognizers = s.trc.recognizers.set k .reset ∧
          (∀ src : Fin 24, src.val = k.val → (t.source src).store = [] ∧
            (t.source src).detector = .silent ∧ (t.source src).lastArrival = none)) ∧
        (x.state.work = none →
          t.hrs.listeners = s.hrs.listeners ∧ t.hrs.slots = s.hrs.slots ∧ t.trc = s.trc ∧
            t.sources = s.sources) ∧
        t.sli.noticesOut = s.sli.noticesOut ∧
        t.sli.answersOut = s.sli.answersOut ++ [⟨tag, .done, []⟩] ∧ t.ap = s.ap ∧ t.rlc = s.rlc)

/-- SET_RACK (R123, R124, R161): the configuration is stored; a rack taken out of service loses its requests, its
transaction and its bays, one put back begins with link state UNKNOWN, and a present rack keeps its bays. The
exchange in flight runs on, marked when its rack leaves service (R124). That the temperature state becomes NORMAL
both ways is the model's (log 13). -/
def Obligations.SetRackConfiguresRack : Prop :=
  ∀ (s : State) (time : Time) (tag : Byte) (r : Fin 8) (present : Bool) (budget threshold : Nat)
    (program : Option (Fin 32)) (kind : HandsetKind) (warm hot : Byte),
    s.TakesOrders → budget < 65536 → threshold < 256 →
    let w : Int := max 0 (min 100 warm.toInt)
    let h : Int := max w (min 100 hot.toInt)
    let rack := { s.rack r with
      present := present, budget := min 8000 budget, defaultProgram := program
      defaultKind := kind, issueThreshold := min 100 threshold, warmThreshold := w
      hotThreshold := h }
    ∃ t, exec (.setRack time tag (placeBytes r ++ flagBytes present ++ wideBytes budget ++
        optPlaceBytes program ++ kind.code ++ byteBytes threshold ++ [warm, hot])) s = .next t ∧
      t.rack r = (if present = (s.rack r).present then rack
        else { rack with link := .unknown, missCount := 0, lastTakeCount := none }) ∧
      (∀ r', r' ≠ r → t.rack r' = s.rack r') ∧
      (present = (s.rack r).present → t.rlc.bays = s.rlc.bays ∧ t.ise = s.ise ∧ t.hrs = s.hrs) ∧
      (present = true → (s.rack r).present = true →
        (t.chp.get r).temperature =
          (match (s.rack r).lastTemperature with
          | some t0 =>
            if (s.rack r).warmThreshold ≠ w ∨ (s.rack r).hotThreshold ≠ h then
              nextTemperature w h t0 (s.chp.get r).temperature
            else (s.chp.get r).temperature
          | none => (s.chp.get r).temperature)) ∧
      (present ≠ (s.rack r).present → ∀ b, (t.bay r b).occupancy = .unknown ∧
        (t.bay r b).charger = .idle ∧ (t.bay r b).latch = .locked ∧ (t.bay r b).image = .none) ∧
      (present = false → (s.rack r).present = true → s.ise.Apart →
        (∀ x ∈ t.rlc.queue, x.rack ≠ r) ∧ t.rlc.pendingCharge.get r = none ∧
        (∀ i x, t.transaction i = some x → x.rack ≠ r) ∧ t.sli.rackOffline.get r = false) ∧
      (present ≠ (s.rack r).present →
        (t.chp.get r).temperature = .normal ∧ (t.chp.get r).acknowledged = none ∧
        (t.chp.get r).lastAsked = none ∧ t.sli.rackHot.get r = false) ∧
      (∀ f, s.rlc.inFlight = some f → t.rlc.inFlight = some
        (if present = false ∧ (s.rack r).present = true ∧ f.exchange.rack = r then
          { f with leftService := true }
        else f)) ∧
      t.ap = s.ap ∧ t.programs = s.programs ∧ t.ats = s.ats

/-- ISSUE with a named bay that is a candidate, in DAY at an ONLINE rack (R100, R143, R144, R145): the transaction
in IMAGING with its reservations, its image with the tour language list, asked for or set for retry, and the ACCEPTED
answer. -/
def Obligations.IssueStartsTransaction : Prop :=
  ∀ (s : State) (time : Time) (tag : Byte) (r : Fin 8) (b : Fin 24) (i : Fin 4) (e : Fin 512)
    (x : RosterEntry) (battery : Nat) (number : Byte) (work : Assignment) (take : Bool),
    s.TakesOrders → s.now ≤ time → s.sli.mode = .day → (s.rack r).present = true →
    (s.rack r).link = .online → (take = true → (s.ise.takeRequests.get r).isSome = true) →
    (∀ j y, s.transaction j = some y → y.rack ≠ r) → s.ise.marks.get r = false →
    s.transaction i = none → (∀ j, j < i → s.transaction j ≠ none) →
    s.entry e = some x → (∀ e' x', s.entry e' = some x' → x'.id = x.id → e' = e) →
    x.state = .docked r b → (s.bay r b).occupancy = .occupied x.id battery →
    (s.rack r).issueThreshold ≤ battery → (s.bay r b).charger ≠ .fault →
    (s.bay r b).foreign = false → (s.bay r b).reservation = none →
    ((∃ p, x.kind = .receiver ∧ number = .ofNat 8 p.val ∧ (s.program p).isOpen = true ∧
        work = .listener p (s.program p).tour) ∨
      (∃ tour k, x.kind = .mic ∧ number = .ofNat 8 tour.val ∧ s.hrs.slots.get k = .free ∧
        (∀ k', k' < k → s.hrs.slots.get k' ≠ .free) ∧ work = .speaker tour k)) →
    let n := s.ise.sequenceNumber + 1
    ∃ t y, exec (.issue time tag (placeBytes r ++ x.kind.code ++ [number] ++ placeBytes b ++
        flagBytes take)) s = .next t ∧
      t.transaction i = some y ∧ y.state = .imaging ∧ y.origin = .order tag ∧ y.rack = r ∧
      y.bay = b ∧ y.id = x.id ∧ y.work = work ∧ y.imageTag = n ∧ y.releaseAsked = false ∧
      y.timer = some (time + 1000000) ∧ y.image.id = x.id ∧ y.image.kind = x.kind ∧
      y.image.tag = n ∧ y.image.tour = work.tour ∧ y.image.program = work.program ∧
      y.image.slot = work.slot ∧ y.image.volumeCap = (if x.kind = .receiver then 85 else 100) ∧
      ((y.retry = none ∧ t.ise.marks.get r = true ∧
          (⟨r, .image b y.image⟩ ∈ t.rlc.queue ∨
            t.rlc.inFlight = some ⟨⟨r, .image b y.image⟩, none, false⟩)) ∨
        (y.retry = some .image ∧ t.ise.marks.get r = false)) ∧
      (s.rlc.Sound → s.rlc.queue.length < 15 → y.retry = none) ∧
      (∀ p tour, work = .listener p tour →
        let others (q : Fin 32) : Prop := q ≠ p ∧ (s.program q).isOpen = true ∧
          (s.program q).tour = (s.program p).tour
        let listed := y.image.languages.map Prod.fst
        listed.Pairwise (· < ·) ∧ listed.length ≤ 8 ∧ p ∈ listed ∧
          (∀ q ∈ listed, q ≠ p → others q) ∧
          (∀ q, others q → q ∉ listed → listed.length = 8 ∧ ∀ q' ∈ listed, q' ≠ p → q' < q) ∧
          ∀ l ∈ y.image.languages, l.2 = (s.program l.1).label) ∧
      (∀ tour k, work = .speaker tour k → y.image.languages = []) ∧
      (∀ j, j ≠ i → t.transaction j = s.transaction j) ∧ t.ise.sequenceNumber = n ∧
      t.ise.takeRequests = (if take then s.ise.takeRequests.set r none else s.ise.takeRequests) ∧
      t.bay r b = { s.bay r b with reservation := some i } ∧
      (∀ r' b', r' ≠ r ∨ b' ≠ b → t.bay r' b' = s.bay r' b') ∧
      t.hrs = (match work with
        | .listener _ _ => s.hrs
        | .speaker _ k => { s.hrs with slots := s.hrs.slots.set k (.reserved i) }) ∧
      t.sli.answersOut = s.sli.answersOut ++ [⟨tag, .accepted,
        placeBytes i ++ placeBytes r ++ placeBytes b ++ idBytes x.id ++ [n] ++
          optPlaceBytes work.slot⟩] ∧
      t.ap = s.ap ∧ t.sources = s.sources ∧ t.programs = s.programs ∧ t.ats = s.ats

/-- READ (R171) and STATUS (R176): a READ answers and changes nothing; STATUS tells mode, link, flags and counters
and clears NOTICES LOST alone. The field orders are the model's (log 16), and so is auto-enrol sent as a flag
(log 44). -/
def Obligations.ReadsChangeNothing : Prop :=
  (∀ (s : State) (time : Time) (tag table : Byte) (index : BitVec 16), s.TakesOrders →
    ∃ code data, exec (.read time tag (table :: wordBytes index)) s =
        .next (s.afterOrder time tag code data id) ∧
      (11 < table.toNat → code = .malformed) ∧
      (table = 3 → 512 ≤ index.toNat → code = .noEntry) ∧
      (∀ k : Fin 24, table = 0 → index.toNat = k.val → code = .done ∧
        data.take 8 = wideBytes (s.source k).gain ++ wideBytes (s.source k).onThreshold ++
          wideBytes (s.source k).offThreshold ++ byteBytes (s.source k).attack ++
          byteBytes (s.source k).hang) ∧
      (∀ r : Fin 8, table = 8 → index.toNat = r.val → code = .done ∧
        data.take 3 = flagBytes (s.rack r).present ++ wideBytes (s.rack r).budget)) ∧
  (∀ (s : State) (time : Time) (tag : Byte), s.TakesOrders →
    exec (.status time tag []) s = .next (s.afterOrder time tag .done
      (s.sli.mode.code ++ [0, 0] ++ byteBytes s.sli.notices.length ++ s.ap.sync.code ++
        wordBytes s.ap.superframe ++ s.ap.plan.code ++ wideBytes s.ap.airErrors ++
        flagBytes s.sli.syncLost ++ flagBytes s.sli.airDegraded ++
        tableBytes flagBytes s.sli.rackOffline ++ tableBytes flagBytes s.sli.rackHot ++
        flagBytes s.sli.noticesLost ++ wideBytes s.hrs.missTimeout ++ flagBytes s.hrs.autoEnrol ++
        wideBytes s.ap.syncFaults ++ wideBytes s.ap.lateFills ++ wideBytes s.ap.lateReports ++
        wideBytes s.ap.duplicateArrivals ++ wideBytes s.ap.planToggles ++
        wideBytes s.ats.preemptions ++ wideBytes s.ats.retuneDrops ++
        wideBytes s.rlc.rackFrameErrors ++ wideBytes s.rlc.strayReplies ++
        wideBytes s.rlc.skippedPolls ++ wideBytes s.rlc.queueRefusals ++
        wideBytes s.rlc.badBayReports ++ wideBytes s.sli.siteFrameErrors ++
        wideBytes s.sli.noticesDropped ++ wideBytes s.sli.tapoutDrops ++
        wideBytes s.sli.orderOverruns)
      fun u => { u with
        sli := { u.sli with noticesLost := false, noticesLostDue := false } }))

/-- DAY, NIGHT (R15, R35, R59, R82, R122, R155, R178) and RESET (R179). -/
def Obligations.ModeAndResetOrders : Prop :=
  (∀ (s : State) (time : Time) (tag : Byte), s.TakesOrders →
    (s.sli.mode = .day → exec (.day time tag []) s = .next (s.afterOrder time tag .done [] id)) ∧
    (s.sli.mode = .night → s.ap.sync = .stopped →
      exec (.day time tag []) s = .next (s.afterOrder time tag .done [] fun u => { u with
        ap := { u.ap with sync := .syncing, lastStrobe := none, intervalCount := 0 }
        sli := { u.sli with mode := .day } }))) ∧
  (∀ (s : State) (time : Time) (tag : Byte), s.TakesOrders →
    (s.sli.mode = .night →
      exec (.night time tag []) s = .next (s.afterOrder time tag .done [] id)) ∧
    (s.sli.mode = .day → s.ap.onAir = true →
      ∃ t, exec (.night time tag []) s = .next t ∧ t.sli.mode = .night ∧ t.ap.sync = .stopped ∧
        Ended s t ∧ (∀ k, (t.source k).queue = [] ∧ (t.source k).referenceSeq = none ∧
          (t.source k).lastRawKey = .up ∧ (t.source k).enabled = (s.source k).enabled) ∧
        t.tap = none ∧ t.programs = s.programs ∧ t.hrs.entries = s.hrs.entries ∧
        (∀ r, t.ise.takeRequests.get r = none ∧ t.ise.latches.get r = false) ∧
        (∀ i x, t.transaction i = some x ↔ s.transaction i = some x ∧ x.state = .takeWait) ∧
        t.sli.answersOut = s.sli.answersOut ++ [⟨tag, .done, []⟩])) ∧
  (∀ (s : State) (time : Time) (tag : Byte), s.TakesOrders →
    exec (.reset time tag [0]) s = .next (s.afterOrder time tag .done [] fun u => { u with
      sli := { u.sli with resetPending := some .full } }) ∧
    exec (.reset time tag [1]) s = .next (s.afterOrder time tag .done [] fun u => { u with
      sli := { u.sli with resetPending := some .air } }) ∧
    (∀ scope : Byte, 1 < scope.toNat →
      exec (.reset time tag [scope]) s = .next (s.afterOrder time tag .malformed [] id)))
end

