-- ==== Sys2Proof/Laws/Operands.lean ====
section
/-! SUPPORT. Every operand layout is read back as what was written: the codings of R181 and R182. -/

namespace Sys2Proof.Machine

theorem placeOf_ofNat {n : Nat} (i : Fin n) (h : n ≤ 256) :
    placeOf n (BitVec.ofNat 8 i.val) = some i := by
  have : i.val % 256 = i.val := Nat.mod_eq_of_lt (by omega)
  simp [placeOf, this]

@[simp] theorem placeOf_program (i : Fin 32) : placeOf 32 (BitVec.ofNat 8 i.val) = some i :=
  placeOf_ofNat i (by decide)

@[simp] theorem placeOf_source (i : Fin 24) : placeOf 24 (BitVec.ofNat 8 i.val) = some i :=
  placeOf_ofNat i (by decide)

@[simp] theorem placeOf_tour (i : Fin 16) : placeOf 16 (BitVec.ofNat 8 i.val) = some i :=
  placeOf_ofNat i (by decide)

@[simp] theorem placeOf_rack (i : Fin 8) : placeOf 8 (BitVec.ofNat 8 i.val) = some i :=
  placeOf_ofNat i (by decide)

@[simp] theorem word16_bytes (w : BitVec 16) : word16 (highByte w) (lowByte w) = w := by
  apply BitVec.eq_of_getLsbD_eq
  intro i hi
  simp only [word16, highByte, lowByte, BitVec.getLsbD_append, BitVec.getLsbD_extractLsb']
  by_cases h : i < 8
  · simp [h]
  · simp [h, show i - 8 < 8 by omega, show 8 + (i - 8) = i by omega]

@[simp] theorem quantity_bytes (w : BitVec 16) : quantity (highByte w) (lowByte w) = w.toNat := by
  simp [quantity]

@[simp] theorem word24_bytes (w : BitVec 24) :
    word24 (w.extractLsb' 16 8) (w.extractLsb' 8 8) (w.extractLsb' 0 8) = w := by
  apply BitVec.eq_of_getLsbD_eq
  intro i hi
  simp only [word24, BitVec.getLsbD_append, BitVec.getLsbD_extractLsb']
  by_cases h : i < 8
  · simp [h]
  · by_cases h' : i - 8 < 8
    · simp [h, h', show 8 + (i - 8) = i by omega]
    · simp [h, h', show i - 8 - 8 < 8 by omega, show 16 + (i - 8 - 8) = i by omega]

@[simp] theorem flagOf_bytes (b : Bool) : flagOf (if b then 1 else 0) = some b := by
  cases b <;> decide

/-- A sample in the range of 16 bits is read back whole. -/
theorem ofInt16_toInt (v : Int) (h1 : -32768 ≤ v) (h2 : v ≤ 32767) :
    (BitVec.ofInt 16 v).toInt = v := by
  rw [BitVec.toInt_ofInt, Int.bmod_def]
  split <;> omega

/-- A block written sample by sample is read back. -/
theorem samplesOf_sampleBytes (b : Block) (h : ∀ v ∈ b, -32768 ≤ v ∧ v ≤ 32767) :
    samplesOf (sampleBytes b) = b := by
  induction b with
  | nil => rfl
  | cons v rest ih =>
    have hv := h v (by simp)
    have ih := ih fun x hx => h x (by simp [hx])
    simp only [sampleBytes, List.flatMap_cons, wordBytes, List.cons_append, List.nil_append,
      samplesOf, word16_bytes] at ih ⊢
    rw [ih, ofInt16_toInt v hv.1 hv.2]

/-- A block takes two bytes a sample. -/
theorem sampleBytes_length (b : Block) : (sampleBytes b).length = 2 * b.length := by
  induction b with
  | nil => rfl
  | cons v rest ih =>
    simp only [sampleBytes, List.flatMap_cons, wordBytes, List.length_append, List.length_cons,
      List.length_nil] at ih ⊢
    omega

@[simp] theorem downlinkSlotOf_code (d : Fin 12) :
    downlinkSlotOf (BitVec.ofNat 8 (0x20 + d.val)) = some d := by
  revert d; decide

theorem slotCode_not_map (d : Fin 12) : BitVec.ofNat 8 (0x20 + d.val) ≠ 48#8 := by
  revert d; decide

end Sys2Proof.Machine
end

