-- ==== Sys2Proof/Laws/State.lean ====
section
/-! SUPPORT. What each update of the state does to each field, one lemma a field, for `simp`. -/

namespace Sys2Proof.Machine

variable (s : State)

section
variable (f : AirPort → AirPort)
@[simp] theorem State.onAp_ap : (s.onAp f).ap = f s.ap := rfl
@[simp] theorem State.onAp_sources : (s.onAp f).sources = s.sources := rfl
@[simp] theorem State.onAp_programs : (s.onAp f).programs = s.programs := rfl
@[simp] theorem State.onAp_tap : (s.onAp f).tap = s.tap := rfl
@[simp] theorem State.onAp_ats : (s.onAp f).ats = s.ats := rfl
@[simp] theorem State.onAp_hrs : (s.onAp f).hrs = s.hrs := rfl
@[simp] theorem State.onAp_trc : (s.onAp f).trc = s.trc := rfl
@[simp] theorem State.onAp_rlc : (s.onAp f).rlc = s.rlc := rfl
@[simp] theorem State.onAp_ise : (s.onAp f).ise = s.ise := rfl
@[simp] theorem State.onAp_chp : (s.onAp f).chp = s.chp := rfl
@[simp] theorem State.onAp_sli : (s.onAp f).sli = s.sli := rfl
@[simp] theorem State.onAp_handovers : (s.onAp f).handovers = s.handovers := rfl
@[simp] theorem State.onAp_resetHeld : (s.onAp f).resetHeld = s.resetHeld := rfl
@[simp] theorem State.onAp_now : (s.onAp f).now = s.now := rfl
@[simp] theorem State.onAp_choices : (s.onAp f).choices = s.choices := rfl
@[simp] theorem State.onAp_pending : (s.onAp f).pending = s.pending := rfl
end

section
variable (k : Fin 24) (f : Source → Source)
@[simp] theorem State.onSource_ap : (s.onSource k f).ap = s.ap := rfl
@[simp] theorem State.onSource_sources : (s.onSource k f).sources = s.sources.modify k f := rfl
@[simp] theorem State.onSource_programs : (s.onSource k f).programs = s.programs := rfl
@[simp] theorem State.onSource_tap : (s.onSource k f).tap = s.tap := rfl
@[simp] theorem State.onSource_ats : (s.onSource k f).ats = s.ats := rfl
@[simp] theorem State.onSource_hrs : (s.onSource k f).hrs = s.hrs := rfl
@[simp] theorem State.onSource_trc : (s.onSource k f).trc = s.trc := rfl
@[simp] theorem State.onSource_rlc : (s.onSource k f).rlc = s.rlc := rfl
@[simp] theorem State.onSource_ise : (s.onSource k f).ise = s.ise := rfl
@[simp] theorem State.onSource_chp : (s.onSource k f).chp = s.chp := rfl
@[simp] theorem State.onSource_sli : (s.onSource k f).sli = s.sli := rfl
@[simp] theorem State.onSource_handovers : (s.onSource k f).handovers = s.handovers := rfl
@[simp] theorem State.onSource_resetHeld : (s.onSource k f).resetHeld = s.resetHeld := rfl
@[simp] theorem State.onSource_now : (s.onSource k f).now = s.now := rfl
@[simp] theorem State.onSource_choices : (s.onSource k f).choices = s.choices := rfl
@[simp] theorem State.onSource_pending : (s.onSource k f).pending = s.pending := rfl
end

section
variable (f : Source → Source)
@[simp] theorem State.onSources_ap : (s.onSources f).ap = s.ap := rfl
@[simp] theorem State.onSources_sources : (s.onSources f).sources = s.sources.map f := rfl
@[simp] theorem State.onSources_programs : (s.onSources f).programs = s.programs := rfl
@[simp] theorem State.onSources_tap : (s.onSources f).tap = s.tap := rfl
@[simp] theorem State.onSources_ats : (s.onSources f).ats = s.ats := rfl
@[simp] theorem State.onSources_hrs : (s.onSources f).hrs = s.hrs := rfl
@[simp] theorem State.onSources_trc : (s.onSources f).trc = s.trc := rfl
@[simp] theorem State.onSources_rlc : (s.onSources f).rlc = s.rlc := rfl
@[simp] theorem State.onSources_ise : (s.onSources f).ise = s.ise := rfl
@[simp] theorem State.onSources_chp : (s.onSources f).chp = s.chp := rfl
@[simp] theorem State.onSources_sli : (s.onSources f).sli = s.sli := rfl
@[simp] theorem State.onSources_handovers : (s.onSources f).handovers = s.handovers := rfl
@[simp] theorem State.onSources_resetHeld : (s.onSources f).resetHeld = s.resetHeld := rfl
@[simp] theorem State.onSources_now : (s.onSources f).now = s.now := rfl
@[simp] theorem State.onSources_choices : (s.onSources f).choices = s.choices := rfl
@[simp] theorem State.onSources_pending : (s.onSources f).pending = s.pending := rfl
end

section
variable (p : Fin 32) (f : Program → Program)
@[simp] theorem State.onProgram_ap : (s.onProgram p f).ap = s.ap := rfl
@[simp] theorem State.onProgram_sources : (s.onProgram p f).sources = s.sources := rfl
@[simp] theorem State.onProgram_programs : (s.onProgram p f).programs = s.programs.modify p f := rfl
@[simp] theorem State.onProgram_tap : (s.onProgram p f).tap = s.tap := rfl
@[simp] theorem State.onProgram_ats : (s.onProgram p f).ats = s.ats := rfl
@[simp] theorem State.onProgram_hrs : (s.onProgram p f).hrs = s.hrs := rfl
@[simp] theorem State.onProgram_trc : (s.onProgram p f).trc = s.trc := rfl
@[simp] theorem State.onProgram_rlc : (s.onProgram p f).rlc = s.rlc := rfl
@[simp] theorem State.onProgram_ise : (s.onProgram p f).ise = s.ise := rfl
@[simp] theorem State.onProgram_chp : (s.onProgram p f).chp = s.chp := rfl
@[simp] theorem State.onProgram_sli : (s.onProgram p f).sli = s.sli := rfl
@[simp] theorem State.onProgram_handovers : (s.onProgram p f).handovers = s.handovers := rfl
@[simp] theorem State.onProgram_resetHeld : (s.onProgram p f).resetHeld = s.resetHeld := rfl
@[simp] theorem State.onProgram_now : (s.onProgram p f).now = s.now := rfl
@[simp] theorem State.onProgram_choices : (s.onProgram p f).choices = s.choices := rfl
@[simp] theorem State.onProgram_pending : (s.onProgram p f).pending = s.pending := rfl
end

section
variable (f : Program → Program)
@[simp] theorem State.onPrograms_ap : (s.onPrograms f).ap = s.ap := rfl
@[simp] theorem State.onPrograms_sources : (s.onPrograms f).sources = s.sources := rfl
@[simp] theorem State.onPrograms_programs : (s.onPrograms f).programs = s.programs.map f := rfl
@[simp] theorem State.onPrograms_tap : (s.onPrograms f).tap = s.tap := rfl
@[simp] theorem State.onPrograms_ats : (s.onPrograms f).ats = s.ats := rfl
@[simp] theorem State.onPrograms_hrs : (s.onPrograms f).hrs = s.hrs := rfl
@[simp] theorem State.onPrograms_trc : (s.onPrograms f).trc = s.trc := rfl
@[simp] theorem State.onPrograms_rlc : (s.onPrograms f).rlc = s.rlc := rfl
@[simp] theorem State.onPrograms_ise : (s.onPrograms f).ise = s.ise := rfl
@[simp] theorem State.onPrograms_chp : (s.onPrograms f).chp = s.chp := rfl
@[simp] theorem State.onPrograms_sli : (s.onPrograms f).sli = s.sli := rfl
@[simp] theorem State.onPrograms_handovers : (s.onPrograms f).handovers = s.handovers := rfl
@[simp] theorem State.onPrograms_resetHeld : (s.onPrograms f).resetHeld = s.resetHeld := rfl
@[simp] theorem State.onPrograms_now : (s.onPrograms f).now = s.now := rfl
@[simp] theorem State.onPrograms_choices : (s.onPrograms f).choices = s.choices := rfl
@[simp] theorem State.onPrograms_pending : (s.onPrograms f).pending = s.pending := rfl
end

section
variable (v : Option TapRecord)
@[simp] theorem State.setTap_ap : (s.setTap v).ap = s.ap := rfl
@[simp] theorem State.setTap_sources : (s.setTap v).sources = s.sources := rfl
@[simp] theorem State.setTap_programs : (s.setTap v).programs = s.programs := rfl
@[simp] theorem State.setTap_tap : (s.setTap v).tap = v := rfl
@[simp] theorem State.setTap_ats : (s.setTap v).ats = s.ats := rfl
@[simp] theorem State.setTap_hrs : (s.setTap v).hrs = s.hrs := rfl
@[simp] theorem State.setTap_trc : (s.setTap v).trc = s.trc := rfl
@[simp] theorem State.setTap_rlc : (s.setTap v).rlc = s.rlc := rfl
@[simp] theorem State.setTap_ise : (s.setTap v).ise = s.ise := rfl
@[simp] theorem State.setTap_chp : (s.setTap v).chp = s.chp := rfl
@[simp] theorem State.setTap_sli : (s.setTap v).sli = s.sli := rfl
@[simp] theorem State.setTap_handovers : (s.setTap v).handovers = s.handovers := rfl
@[simp] theorem State.setTap_resetHeld : (s.setTap v).resetHeld = s.resetHeld := rfl
@[simp] theorem State.setTap_now : (s.setTap v).now = s.now := rfl
@[simp] theorem State.setTap_choices : (s.setTap v).choices = s.choices := rfl
@[simp] theorem State.setTap_pending : (s.setTap v).pending = s.pending := rfl
end

section
variable (f : Scheduler → Scheduler)
@[simp] theorem State.onAts_ap : (s.onAts f).ap = s.ap := rfl
@[simp] theorem State.onAts_sources : (s.onAts f).sources = s.sources := rfl
@[simp] theorem State.onAts_programs : (s.onAts f).programs = s.programs := rfl
@[simp] theorem State.onAts_tap : (s.onAts f).tap = s.tap := rfl
@[simp] theorem State.onAts_ats : (s.onAts f).ats = f s.ats := rfl
@[simp] theorem State.onAts_hrs : (s.onAts f).hrs = s.hrs := rfl
@[simp] theorem State.onAts_trc : (s.onAts f).trc = s.trc := rfl
@[simp] theorem State.onAts_rlc : (s.onAts f).rlc = s.rlc := rfl
@[simp] theorem State.onAts_ise : (s.onAts f).ise = s.ise := rfl
@[simp] theorem State.onAts_chp : (s.onAts f).chp = s.chp := rfl
@[simp] theorem State.onAts_sli : (s.onAts f).sli = s.sli := rfl
@[simp] theorem State.onAts_handovers : (s.onAts f).handovers = s.handovers := rfl
@[simp] theorem State.onAts_resetHeld : (s.onAts f).resetHeld = s.resetHeld := rfl
@[simp] theorem State.onAts_now : (s.onAts f).now = s.now := rfl
@[simp] theorem State.onAts_choices : (s.onAts f).choices = s.choices := rfl
@[simp] theorem State.onAts_pending : (s.onAts f).pending = s.pending := rfl
end

section
variable (f : Roster → Roster)
@[simp] theorem State.onHrs_ap : (s.onHrs f).ap = s.ap := rfl
@[simp] theorem State.onHrs_sources : (s.onHrs f).sources = s.sources := rfl
@[simp] theorem State.onHrs_programs : (s.onHrs f).programs = s.programs := rfl
@[simp] theorem State.onHrs_tap : (s.onHrs f).tap = s.tap := rfl
@[simp] theorem State.onHrs_ats : (s.onHrs f).ats = s.ats := rfl
@[simp] theorem State.onHrs_hrs : (s.onHrs f).hrs = f s.hrs := rfl
@[simp] theorem State.onHrs_trc : (s.onHrs f).trc = s.trc := rfl
@[simp] theorem State.onHrs_rlc : (s.onHrs f).rlc = s.rlc := rfl
@[simp] theorem State.onHrs_ise : (s.onHrs f).ise = s.ise := rfl
@[simp] theorem State.onHrs_chp : (s.onHrs f).chp = s.chp := rfl
@[simp] theorem State.onHrs_sli : (s.onHrs f).sli = s.sli := rfl
@[simp] theorem State.onHrs_handovers : (s.onHrs f).handovers = s.handovers := rfl
@[simp] theorem State.onHrs_resetHeld : (s.onHrs f).resetHeld = s.resetHeld := rfl
@[simp] theorem State.onHrs_now : (s.onHrs f).now = s.now := rfl
@[simp] theorem State.onHrs_choices : (s.onHrs f).choices = s.choices := rfl
@[simp] theorem State.onHrs_pending : (s.onHrs f).pending = s.pending := rfl
end

section
variable (f : TourControl → TourControl)
@[simp] theorem State.onTrc_ap : (s.onTrc f).ap = s.ap := rfl
@[simp] theorem State.onTrc_sources : (s.onTrc f).sources = s.sources := rfl
@[simp] theorem State.onTrc_programs : (s.onTrc f).programs = s.programs := rfl
@[simp] theorem State.onTrc_tap : (s.onTrc f).tap = s.tap := rfl
@[simp] theorem State.onTrc_ats : (s.onTrc f).ats = s.ats := rfl
@[simp] theorem State.onTrc_hrs : (s.onTrc f).hrs = s.hrs := rfl
@[simp] theorem State.onTrc_trc : (s.onTrc f).trc = f s.trc := rfl
@[simp] theorem State.onTrc_rlc : (s.onTrc f).rlc = s.rlc := rfl
@[simp] theorem State.onTrc_ise : (s.onTrc f).ise = s.ise := rfl
@[simp] theorem State.onTrc_chp : (s.onTrc f).chp = s.chp := rfl
@[simp] theorem State.onTrc_sli : (s.onTrc f).sli = s.sli := rfl
@[simp] theorem State.onTrc_handovers : (s.onTrc f).handovers = s.handovers := rfl
@[simp] theorem State.onTrc_resetHeld : (s.onTrc f).resetHeld = s.resetHeld := rfl
@[simp] theorem State.onTrc_now : (s.onTrc f).now = s.now := rfl
@[simp] theorem State.onTrc_choices : (s.onTrc f).choices = s.choices := rfl
@[simp] theorem State.onTrc_pending : (s.onTrc f).pending = s.pending := rfl
end

section
variable (f : RackController → RackController)
@[simp] theorem State.onRlc_ap : (s.onRlc f).ap = s.ap := rfl
@[simp] theorem State.onRlc_sources : (s.onRlc f).sources = s.sources := rfl
@[simp] theorem State.onRlc_programs : (s.onRlc f).programs = s.programs := rfl
@[simp] theorem State.onRlc_tap : (s.onRlc f).tap = s.tap := rfl
@[simp] theorem State.onRlc_ats : (s.onRlc f).ats = s.ats := rfl
@[simp] theorem State.onRlc_hrs : (s.onRlc f).hrs = s.hrs := rfl
@[simp] theorem State.onRlc_trc : (s.onRlc f).trc = s.trc := rfl
@[simp] theorem State.onRlc_rlc : (s.onRlc f).rlc = f s.rlc := rfl
@[simp] theorem State.onRlc_ise : (s.onRlc f).ise = s.ise := rfl
@[simp] theorem State.onRlc_chp : (s.onRlc f).chp = s.chp := rfl
@[simp] theorem State.onRlc_sli : (s.onRlc f).sli = s.sli := rfl
@[simp] theorem State.onRlc_handovers : (s.onRlc f).handovers = s.handovers := rfl
@[simp] theorem State.onRlc_resetHeld : (s.onRlc f).resetHeld = s.resetHeld := rfl
@[simp] theorem State.onRlc_now : (s.onRlc f).now = s.now := rfl
@[simp] theorem State.onRlc_choices : (s.onRlc f).choices = s.choices := rfl
@[simp] theorem State.onRlc_pending : (s.onRlc f).pending = s.pending := rfl
end

section
variable (f : IssueEngine → IssueEngine)
@[simp] theorem State.onIse_ap : (s.onIse f).ap = s.ap := rfl
@[simp] theorem State.onIse_sources : (s.onIse f).sources = s.sources := rfl
@[simp] theorem State.onIse_programs : (s.onIse f).programs = s.programs := rfl
@[simp] theorem State.onIse_tap : (s.onIse f).tap = s.tap := rfl
@[simp] theorem State.onIse_ats : (s.onIse f).ats = s.ats := rfl
@[simp] theorem State.onIse_hrs : (s.onIse f).hrs = s.hrs := rfl
@[simp] theorem State.onIse_trc : (s.onIse f).trc = s.trc := rfl
@[simp] theorem State.onIse_rlc : (s.onIse f).rlc = s.rlc := rfl
@[simp] theorem State.onIse_ise : (s.onIse f).ise = f s.ise := rfl
@[simp] theorem State.onIse_chp : (s.onIse f).chp = s.chp := rfl
@[simp] theorem State.onIse_sli : (s.onIse f).sli = s.sli := rfl
@[simp] theorem State.onIse_handovers : (s.onIse f).handovers = s.handovers := rfl
@[simp] theorem State.onIse_resetHeld : (s.onIse f).resetHeld = s.resetHeld := rfl
@[simp] theorem State.onIse_now : (s.onIse f).now = s.now := rfl
@[simp] theorem State.onIse_choices : (s.onIse f).choices = s.choices := rfl
@[simp] theorem State.onIse_pending : (s.onIse f).pending = s.pending := rfl
end

section
variable (r : Fin 8) (f : ChargePlanner → ChargePlanner)
@[simp] theorem State.onChp_ap : (s.onChp r f).ap = s.ap := rfl
@[simp] theorem State.onChp_sources : (s.onChp r f).sources = s.sources := rfl
@[simp] theorem State.onChp_programs : (s.onChp r f).programs = s.programs := rfl
@[simp] theorem State.onChp_tap : (s.onChp r f).tap = s.tap := rfl
@[simp] theorem State.onChp_ats : (s.onChp r f).ats = s.ats := rfl
@[simp] theorem State.onChp_hrs : (s.onChp r f).hrs = s.hrs := rfl
@[simp] theorem State.onChp_trc : (s.onChp r f).trc = s.trc := rfl
@[simp] theorem State.onChp_rlc : (s.onChp r f).rlc = s.rlc := rfl
@[simp] theorem State.onChp_ise : (s.onChp r f).ise = s.ise := rfl
@[simp] theorem State.onChp_chp : (s.onChp r f).chp = s.chp.modify r f := rfl
@[simp] theorem State.onChp_sli : (s.onChp r f).sli = s.sli := rfl
@[simp] theorem State.onChp_handovers : (s.onChp r f).handovers = s.handovers := rfl
@[simp] theorem State.onChp_resetHeld : (s.onChp r f).resetHeld = s.resetHeld := rfl
@[simp] theorem State.onChp_now : (s.onChp r f).now = s.now := rfl
@[simp] theorem State.onChp_choices : (s.onChp r f).choices = s.choices := rfl
@[simp] theorem State.onChp_pending : (s.onChp r f).pending = s.pending := rfl
end

section
variable (f : SiteLink → SiteLink)
@[simp] theorem State.onSli_ap : (s.onSli f).ap = s.ap := rfl
@[simp] theorem State.onSli_sources : (s.onSli f).sources = s.sources := rfl
@[simp] theorem State.onSli_programs : (s.onSli f).programs = s.programs := rfl
@[simp] theorem State.onSli_tap : (s.onSli f).tap = s.tap := rfl
@[simp] theorem State.onSli_ats : (s.onSli f).ats = s.ats := rfl
@[simp] theorem State.onSli_hrs : (s.onSli f).hrs = s.hrs := rfl
@[simp] theorem State.onSli_trc : (s.onSli f).trc = s.trc := rfl
@[simp] theorem State.onSli_rlc : (s.onSli f).rlc = s.rlc := rfl
@[simp] theorem State.onSli_ise : (s.onSli f).ise = s.ise := rfl
@[simp] theorem State.onSli_chp : (s.onSli f).chp = s.chp := rfl
@[simp] theorem State.onSli_sli : (s.onSli f).sli = f s.sli := rfl
@[simp] theorem State.onSli_handovers : (s.onSli f).handovers = s.handovers := rfl
@[simp] theorem State.onSli_resetHeld : (s.onSli f).resetHeld = s.resetHeld := rfl
@[simp] theorem State.onSli_now : (s.onSli f).now = s.now := rfl
@[simp] theorem State.onSli_choices : (s.onSli f).choices = s.choices := rfl
@[simp] theorem State.onSli_pending : (s.onSli f).pending = s.pending := rfl
end

section
variable (f : Handovers → Handovers)
@[simp] theorem State.onHandovers_ap : (s.onHandovers f).ap = s.ap := rfl
@[simp] theorem State.onHandovers_sources : (s.onHandovers f).sources = s.sources := rfl
@[simp] theorem State.onHandovers_programs : (s.onHandovers f).programs = s.programs := rfl
@[simp] theorem State.onHandovers_tap : (s.onHandovers f).tap = s.tap := rfl
@[simp] theorem State.onHandovers_ats : (s.onHandovers f).ats = s.ats := rfl
@[simp] theorem State.onHandovers_hrs : (s.onHandovers f).hrs = s.hrs := rfl
@[simp] theorem State.onHandovers_trc : (s.onHandovers f).trc = s.trc := rfl
@[simp] theorem State.onHandovers_rlc : (s.onHandovers f).rlc = s.rlc := rfl
@[simp] theorem State.onHandovers_ise : (s.onHandovers f).ise = s.ise := rfl
@[simp] theorem State.onHandovers_chp : (s.onHandovers f).chp = s.chp := rfl
@[simp] theorem State.onHandovers_sli : (s.onHandovers f).sli = s.sli := rfl
@[simp] theorem State.onHandovers_handovers : (s.onHandovers f).handovers = f s.handovers := rfl
@[simp] theorem State.onHandovers_resetHeld : (s.onHandovers f).resetHeld = s.resetHeld := rfl
@[simp] theorem State.onHandovers_now : (s.onHandovers f).now = s.now := rfl
@[simp] theorem State.onHandovers_choices : (s.onHandovers f).choices = s.choices := rfl
@[simp] theorem State.onHandovers_pending : (s.onHandovers f).pending = s.pending := rfl
end

section
variable (r : Fin 8) (f : Rack → Rack)
@[simp] theorem State.onRack_ap : (s.onRack r f).ap = s.ap := rfl
@[simp] theorem State.onRack_sources : (s.onRack r f).sources = s.sources := rfl
@[simp] theorem State.onRack_programs : (s.onRack r f).programs = s.programs := rfl
@[simp] theorem State.onRack_tap : (s.onRack r f).tap = s.tap := rfl
@[simp] theorem State.onRack_ats : (s.onRack r f).ats = s.ats := rfl
@[simp] theorem State.onRack_hrs : (s.onRack r f).hrs = s.hrs := rfl
@[simp] theorem State.onRack_trc : (s.onRack r f).trc = s.trc := rfl
@[simp] theorem State.onRack_rlc : (s.onRack r f).rlc = { s.rlc with racks := s.rlc.racks.modify r f } := rfl
@[simp] theorem State.onRack_ise : (s.onRack r f).ise = s.ise := rfl
@[simp] theorem State.onRack_chp : (s.onRack r f).chp = s.chp := rfl
@[simp] theorem State.onRack_sli : (s.onRack r f).sli = s.sli := rfl
@[simp] theorem State.onRack_handovers : (s.onRack r f).handovers = s.handovers := rfl
@[simp] theorem State.onRack_resetHeld : (s.onRack r f).resetHeld = s.resetHeld := rfl
@[simp] theorem State.onRack_now : (s.onRack r f).now = s.now := rfl
@[simp] theorem State.onRack_choices : (s.onRack r f).choices = s.choices := rfl
@[simp] theorem State.onRack_pending : (s.onRack r f).pending = s.pending := rfl
end

section
variable (r : Fin 8) (b : Fin 24) (f : Bay → Bay)
@[simp] theorem State.onBay_ap : (s.onBay r b f).ap = s.ap := rfl
@[simp] theorem State.onBay_sources : (s.onBay r b f).sources = s.sources := rfl
@[simp] theorem State.onBay_programs : (s.onBay r b f).programs = s.programs := rfl
@[simp] theorem State.onBay_tap : (s.onBay r b f).tap = s.tap := rfl
@[simp] theorem State.onBay_ats : (s.onBay r b f).ats = s.ats := rfl
@[simp] theorem State.onBay_hrs : (s.onBay r b f).hrs = s.hrs := rfl
@[simp] theorem State.onBay_trc : (s.onBay r b f).trc = s.trc := rfl
@[simp] theorem State.onBay_rlc :
    (s.onBay r b f).rlc = { s.rlc with bays := s.rlc.bays.modify r fun t => t.modify b f } := rfl
@[simp] theorem State.onBay_ise : (s.onBay r b f).ise = s.ise := rfl
@[simp] theorem State.onBay_chp : (s.onBay r b f).chp = s.chp := rfl
@[simp] theorem State.onBay_sli : (s.onBay r b f).sli = s.sli := rfl
@[simp] theorem State.onBay_handovers : (s.onBay r b f).handovers = s.handovers := rfl
@[simp] theorem State.onBay_resetHeld : (s.onBay r b f).resetHeld = s.resetHeld := rfl
@[simp] theorem State.onBay_now : (s.onBay r b f).now = s.now := rfl
@[simp] theorem State.onBay_choices : (s.onBay r b f).choices = s.choices := rfl
@[simp] theorem State.onBay_pending : (s.onBay r b f).pending = s.pending := rfl
end

section
variable (e : Fin 512) (v : Option RosterEntry)
@[simp] theorem State.setEntry_ap : (s.setEntry e v).ap = s.ap := rfl
@[simp] theorem State.setEntry_sources : (s.setEntry e v).sources = s.sources := rfl
@[simp] theorem State.setEntry_programs : (s.setEntry e v).programs = s.programs := rfl
@[simp] theorem State.setEntry_tap : (s.setEntry e v).tap = s.tap := rfl
@[simp] theorem State.setEntry_ats : (s.setEntry e v).ats = s.ats := rfl
@[simp] theorem State.setEntry_hrs :
    (s.setEntry e v).hrs = { s.hrs with entries := s.hrs.entries.set e v } := rfl
@[simp] theorem State.setEntry_trc : (s.setEntry e v).trc = s.trc := rfl
@[simp] theorem State.setEntry_rlc : (s.setEntry e v).rlc = s.rlc := rfl
@[simp] theorem State.setEntry_ise : (s.setEntry e v).ise = s.ise := rfl
@[simp] theorem State.setEntry_chp : (s.setEntry e v).chp = s.chp := rfl
@[simp] theorem State.setEntry_sli : (s.setEntry e v).sli = s.sli := rfl
@[simp] theorem State.setEntry_handovers : (s.setEntry e v).handovers = s.handovers := rfl
@[simp] theorem State.setEntry_resetHeld : (s.setEntry e v).resetHeld = s.resetHeld := rfl
@[simp] theorem State.setEntry_now : (s.setEntry e v).now = s.now := rfl
@[simp] theorem State.setEntry_choices : (s.setEntry e v).choices = s.choices := rfl
@[simp] theorem State.setEntry_pending : (s.setEntry e v).pending = s.pending := rfl
end

section
variable (i : Fin 4) (v : Option Transaction)
@[simp] theorem State.setTransaction_ap : (s.setTransaction i v).ap = s.ap := rfl
@[simp] theorem State.setTransaction_sources : (s.setTransaction i v).sources = s.sources := rfl
@[simp] theorem State.setTransaction_programs : (s.setTransaction i v).programs = s.programs := rfl
@[simp] theorem State.setTransaction_tap : (s.setTransaction i v).tap = s.tap := rfl
@[simp] theorem State.setTransaction_ats : (s.setTransaction i v).ats = s.ats := rfl
@[simp] theorem State.setTransaction_hrs : (s.setTransaction i v).hrs = s.hrs := rfl
@[simp] theorem State.setTransaction_trc : (s.setTransaction i v).trc = s.trc := rfl
@[simp] theorem State.setTransaction_rlc : (s.setTransaction i v).rlc = s.rlc := rfl
@[simp] theorem State.setTransaction_ise :
    (s.setTransaction i v).ise = { s.ise with transactions := s.ise.transactions.set i v } := rfl
@[simp] theorem State.setTransaction_chp : (s.setTransaction i v).chp = s.chp := rfl
@[simp] theorem State.setTransaction_sli : (s.setTransaction i v).sli = s.sli := rfl
@[simp] theorem State.setTransaction_handovers : (s.setTransaction i v).handovers = s.handovers := rfl
@[simp] theorem State.setTransaction_resetHeld : (s.setTransaction i v).resetHeld = s.resetHeld := rfl
@[simp] theorem State.setTransaction_now : (s.setTransaction i v).now = s.now := rfl
@[simp] theorem State.setTransaction_choices : (s.setTransaction i v).choices = s.choices := rfl
@[simp] theorem State.setTransaction_pending : (s.setTransaction i v).pending = s.pending := rfl
end

section
variable (v : Time)
@[simp] theorem State.reachTime_ap : (s.reachTime v).ap = s.ap := rfl
@[simp] theorem State.reachTime_sources : (s.reachTime v).sources = s.sources := rfl
@[simp] theorem State.reachTime_programs : (s.reachTime v).programs = s.programs := rfl
@[simp] theorem State.reachTime_tap : (s.reachTime v).tap = s.tap := rfl
@[simp] theorem State.reachTime_ats : (s.reachTime v).ats = s.ats := rfl
@[simp] theorem State.reachTime_hrs : (s.reachTime v).hrs = s.hrs := rfl
@[simp] theorem State.reachTime_trc : (s.reachTime v).trc = s.trc := rfl
@[simp] theorem State.reachTime_rlc : (s.reachTime v).rlc = s.rlc := rfl
@[simp] theorem State.reachTime_ise : (s.reachTime v).ise = s.ise := rfl
@[simp] theorem State.reachTime_chp : (s.reachTime v).chp = s.chp := rfl
@[simp] theorem State.reachTime_sli : (s.reachTime v).sli = s.sli := rfl
@[simp] theorem State.reachTime_handovers : (s.reachTime v).handovers = s.handovers := rfl
@[simp] theorem State.reachTime_resetHeld : (s.reachTime v).resetHeld = s.resetHeld := rfl
@[simp] theorem State.reachTime_now : (s.reachTime v).now = max s.now v := rfl
@[simp] theorem State.reachTime_choices : (s.reachTime v).choices = s.choices := rfl
@[simp] theorem State.reachTime_pending : (s.reachTime v).pending = s.pending := rfl
end

end Sys2Proof.Machine
end

