-- ==== Sys2Proof/Laws/Table.lean ====
section
/-! SUPPORT. What reading a table gives after each way of making or changing one. -/

namespace Sys2Proof.Table

variable {n : Nat} {α β : Type}

@[ext] theorem ext_get {t u : Table n α} (h : ∀ i, t.get i = u.get i) : t = u := by
  cases t with
  | mk rows hr =>
    cases u with
    | mk rows' hr' =>
      have : rows = rows' := by
        apply List.ext_getElem (by omega)
        intro i h1 h2
        have := h ⟨i, by omega⟩
        simpa [get] using this
      subst this
      rfl

theorem get_set (t : Table n α) (i j : Fin n) (a : α) :
    (t.set i a).get j = if i = j then a else t.get j := by
  simp only [get, set, List.get_eq_getElem, List.getElem_set, Fin.ext_iff]
  rfl

@[simp] theorem get_set_same (t : Table n α) (i : Fin n) (a : α) : (t.set i a).get i = a := by
  simp [get_set]

@[simp] theorem get_set_other (t : Table n α) {i j : Fin n} (a : α) (h : i ≠ j) :
    (t.set i a).get j = t.get j := by
  simp [get_set, h]

theorem get_modify (t : Table n α) (i j : Fin n) (f : α → α) :
    (t.modify i f).get j = if i = j then f (t.get j) else t.get j := by
  simp only [modify, get_set]
  split
  · next h => rw [h]
  · rfl

@[simp] theorem get_modify_same (t : Table n α) (i : Fin n) (f : α → α) :
    (t.modify i f).get i = f (t.get i) := by
  simp [get_modify]

@[simp] theorem get_modify_other (t : Table n α) {i j : Fin n} (f : α → α) (h : i ≠ j) :
    (t.modify i f).get j = t.get j := by
  simp [get_modify, h]

@[simp] theorem get_fill (a : α) (i : Fin n) : (fill n a).get i = a := by
  simp [get, fill]

@[simp] theorem get_map (f : α → β) (t : Table n α) (i : Fin n) : (t.map f).get i = f (t.get i) := by
  simp only [get, map, List.get_eq_getElem, List.getElem_map]
  rfl

@[simp] theorem get_build (f : Fin n → α) (i : Fin n) : (build n f).get i = f i := by
  simp only [get, build, List.get_eq_getElem, List.getElem_map, List.getElem_finRange]
  rfl

@[simp] theorem set_get (t : Table n α) (i : Fin n) : t.set i (t.get i) = t := by
  ext j
  rw [get_set]
  split
  · next h => rw [h]
  · rfl

@[simp] theorem set_set (t : Table n α) (i : Fin n) (a b : α) : (t.set i a).set i b = t.set i b := by
  ext j
  simp only [get_set]
  split <;> rfl

/-- The place `find` gives passes, and no lower one does. -/
theorem find_eq_some {t : Table n α} {p : α → Bool} {i : Fin n} :
    t.find p = some i ↔ p (t.get i) = true ∧ ∀ j, j < i → p (t.get j) = false := by
  have hn := t.size_eq
  simp only [find]
  constructor
  · intro h
    split at h
    · next hlt =>
      cases h
      refine ⟨?_, ?_⟩
      · simpa [get] using List.findIdx_getElem (w := by omega) (p := p) (xs := t.rows)
      · intro j hj
        have := List.not_of_lt_findIdx (xs := t.rows) (p := p) (i := j.val) hj
        simpa [get] using this
    · cases h
  · rintro ⟨h, hl⟩
    have hi : t.rows.findIdx p = i.val := by
      rw [List.findIdx_eq (by omega)]
      refine ⟨by simpa [get] using h, ?_⟩
      intro j hj
      have := hl ⟨j, by omega⟩ hj
      simpa [get] using this
    simp [hi]

/-- `find` gives no place exactly when none passes. -/
theorem find_eq_none {t : Table n α} {p : α → Bool} :
    t.find p = none ↔ ∀ i, p (t.get i) = false := by
  have hn := t.size_eq
  simp only [find]
  constructor
  · intro h i
    split at h
    · cases h
    · next hlt =>
      have := List.not_of_lt_findIdx (xs := t.rows) (p := p) (i := i.val) (by omega)
      simpa [get] using this
  · intro h
    have : t.rows.findIdx p = t.rows.length := by
      rw [List.findIdx_eq_length]
      intro x hx
      obtain ⟨i, hi, rfl⟩ := List.getElem_of_mem hx
      simpa [get] using h ⟨i, by omega⟩
    simp [this, hn]

end Sys2Proof.Table
end

