-- ==== Sys2Proof/Laws/Ops.lean ====
section
/-! SUPPORT. What the shared operations can do, said once: counters, clamps, the wrapping comparison, open
orders, and the frame of every command's meaning. -/

namespace Sys2Proof.Machine

/-! ## Arithmetic -/

theorem bump_le {c : Nat} (h : c ≤ 65535) : bump c ≤ 65535 := by
  unfold bump; split <;> omega

theorem le_bump (c : Nat) : c ≤ bump c := by
  unfold bump; split <;> omega

theorem bumpBy_zero (c : Nat) : bumpBy 0 c = c := by
  unfold bumpBy; split <;> omega

/-- Raising a counter once more after `k` times is raising it `k + 1` times. -/
theorem bump_bumpBy (k c : Nat) : bump (bumpBy k c) = bumpBy (k + 1) c := by
  unfold bump bumpBy; split <;> split <;> (try split) <;> omega

theorem clampNat_range {lo hi : Nat} (h : lo ≤ hi) (x : Nat) :
    lo ≤ (clampNat lo hi x).1 ∧ (clampNat lo hi x).1 ≤ hi := by
  simp only [clampNat]; omega

/-- A quantity is said to be out of range exactly when bringing it in changes it. -/
theorem clampNat_changed {lo hi : Nat} (h : lo ≤ hi) (x : Nat) :
    (clampNat lo hi x).2 = true ↔ (clampNat lo hi x).1 ≠ x := by
  simp only [clampNat, Bool.or_eq_true, decide_eq_true_eq]; omega

theorem clampInt_range {lo hi : Int} (h : lo ≤ hi) (x : Int) :
    lo ≤ (clampInt lo hi x).1 ∧ (clampInt lo hi x).1 ≤ hi := by
  simp only [clampInt]; omega

theorem clampSample_range (x : Int) : -32768 ≤ clampSample x ∧ clampSample x ≤ 32767 := by
  simp only [clampSample]; omega

theorem not_ahead_self (a : BitVec 16) : ahead a a = false := by simp [ahead]

/-- Of two numbers at most one is ahead of the other. -/
theorem ahead_asymm {a b : BitVec 16} (h : ahead a b = true) : ahead b a = false := by
  simp only [ahead, Bool.and_eq_true, decide_eq_true_eq, Bool.and_eq_false_imp,
    decide_eq_false_iff_not] at *
  bv_omega

/-! ## Orders the spec leaves open -/

/-- Taking a choice changes the tape alone. -/
theorem State.choose_snd (s : State) : s.choose.2 = { s with choices := s.choices.drop 1 } := by
  cases s with
  | mk ap sources programs tap ats hrs trc rlc ise chp sli handovers held now choices pending =>
    cases choices <;> rfl

/-- Two parts of an event are taken in one order or the other, one choice used up. -/
theorem State.inEitherOrder_cases (s : State) (f g : State → State) :
    s.inEitherOrder f g = f (g { s with choices := s.choices.drop 1 }) ∨
      s.inEitherOrder f g = g (f { s with choices := s.choices.drop 1 }) := by
  simp only [State.inEitherOrder, State.choose_snd]
  split
  · exact .inl rfl
  · exact .inr rfl

/-- What both orders keep, the event keeps. -/
theorem State.inEitherOrder_keeps {P : State → Prop} {s : State} {f g : State → State}
    (hs : P { s with choices := s.choices.drop 1 }) (hf : ∀ u, P u → P (f u))
    (hg : ∀ u, P u → P (g u)) : P (s.inEitherOrder f g) := by
  rcases s.inEitherOrder_cases f g with h | h <;> rw [h]
  · exact hf _ (hg _ hs)
  · exact hg _ (hf _ hs)

/-! ## The frame of a command's meaning -/

/-- With RESET_N high a meaning is its effect, then SLI's start of a frame. -/
theorem complete_running {s : State} (h : s.resetHeld = false) (f : State → State) :
    complete s f = .next (f s).startTransmission := by
  simp [complete, State.unlessHeld, h]

/-- With RESET_N low it is nothing. -/
theorem complete_held {s : State} (h : s.resetHeld = true) (f : State → State) :
    complete s f = .next s := by
  simp [complete, State.unlessHeld, h]

/-- What its effect and the start of a frame keep, a meaning keeps. -/
theorem complete_keeps {P : State → Prop} {s t : State} {f : State → State} (hs : P s)
    (hf : P (f s)) (ht : ∀ u, P u → P u.startTransmission) (h : complete s f = .next t) : P t := by
  cases hr : s.resetHeld
  · rw [complete_running hr] at h
    cases h
    exact ht _ hf
  · rw [complete_held hr] at h
    cases h
    exact hs

end Sys2Proof.Machine
end

