-- ==== Sys2Proof/Laws/SiteLink.lean ====
section
/-! SUPPORT. What SLI's shared operations can do, said once: notices, condition flags, the start of a frame,
and the answer to an order. -/

namespace Sys2Proof.Machine

/-! ## Notices change the site link alone -/

/-- `t` is `s` but for the site link. -/
def State.OnlySiteLink (s t : State) : Prop := t = { s with sli := t.sli }

theorem State.OnlySiteLink.refl (s : State) : s.OnlySiteLink s := rfl

theorem State.OnlySiteLink.trans {s t u : State} (h1 : s.OnlySiteLink t) (h2 : t.OnlySiteLink u) :
    s.OnlySiteLink u := by
  rw [State.OnlySiteLink, h2]
  rw [State.OnlySiteLink] at h1
  rw [h1]

theorem State.onSli_only (s : State) (f : SiteLink → SiteLink) : s.OnlySiteLink (s.onSli f) := rfl

theorem State.raiseNoticesLost_only (s : State) : s.OnlySiteLink s.raiseNoticesLost := by
  unfold State.raiseNoticesLost
  split
  · exact .refl s
  · exact s.onSli_only _

theorem State.queueNotice_only (s : State) (n : Superframe) (x : Notice) :
    s.OnlySiteLink (s.queueNotice n x) := by
  unfold State.queueNotice
  split
  · exact s.onSli_only _
  · exact (s.onSli_only _).trans (State.raiseNoticesLost_only _)

theorem State.sendNoticeAt_only (s : State) (n : Superframe) (x : Notice) :
    s.OnlySiteLink (s.sendNoticeAt n x) := by
  unfold State.sendNoticeAt
  split
  · exact .refl s
  · exact s.queueNotice_only n x

theorem State.sendNotice_only (s : State) (x : Notice) : s.OnlySiteLink (s.sendNotice x) :=
  s.sendNoticeAt_only _ x

theorem State.raiseSyncLost_only (s : State) : s.OnlySiteLink s.raiseSyncLost := by
  unfold State.raiseSyncLost
  split
  · exact .refl s
  · exact (s.onSli_only _).trans (State.sendNotice_only _ _)

theorem State.raiseAirDegraded_only (s : State) : s.OnlySiteLink s.raiseAirDegraded := by
  unfold State.raiseAirDegraded
  split
  · exact .refl s
  · exact (s.onSli_only _).trans (State.sendNotice_only _ _)

theorem State.raiseRackOffline_only (s : State) (r : Fin 8) :
    s.OnlySiteLink (s.raiseRackOffline r) := by
  unfold State.raiseRackOffline
  split
  · exact .refl s
  · exact (s.onSli_only _).trans (State.sendNotice_only _ _)

theorem State.raiseRackHot_only (s : State) (r : Fin 8) : s.OnlySiteLink (s.raiseRackHot r) := by
  unfold State.raiseRackHot
  split
  · exact .refl s
  · exact (s.onSli_only _).trans (State.sendNotice_only _ _)

theorem State.queueTapout_only (s : State) (x : TapoutFrame) : s.OnlySiteLink (s.queueTapout x) := by
  unfold State.queueTapout
  split <;> exact s.onSli_only _

theorem State.startTransmission_only (s : State) : s.OnlySiteLink s.startTransmission := by
  unfold State.startTransmission
  split
  · exact .refl s
  · split
    · exact s.onSli_only _
    · exact s.onSli_only _
    · exact s.onSli_only _
    · exact .refl s

/-! ## What a notice does -/

/-- A notice is masked and dropped, joins the queue, or is dropped and counted (R173). -/
theorem State.sendNoticeAt_cases (s : State) (n : Superframe) (x : Notice) :
    (s.masked x = true ∧ s.sendNoticeAt n x = s) ∨
    (s.masked x = false ∧ s.sli.notices.length < 16 ∧
      s.sendNoticeAt n x = s.onSli fun l => { l with notices := l.notices ++ [⟨n, x⟩] }) ∨
    (s.masked x = false ∧ 16 ≤ s.sli.notices.length ∧
      s.sendNoticeAt n x =
        (s.onSli fun l => { l with noticesDropped := bump l.noticesDropped }).raiseNoticesLost) := by
  unfold State.sendNoticeAt State.queueNotice
  cases hm : s.masked x
  · by_cases hl : s.sli.notices.length < 16
    · simp [hl]
    · simp [hl]; omega
  · simp

/-! ## The start of a frame -/

/-- While a frame is in transmission none starts. -/
theorem State.startTransmission_busy {s : State} {f : OutFrame} (h : s.sli.transmitting = some f) :
    s.startTransmission = s := by
  simp [State.startTransmission, h]

/-- With nothing waiting none starts. -/
theorem State.startTransmission_empty {s : State} (h1 : s.sli.answers = []) (h2 : s.sli.notices = [])
    (h3 : s.sli.tapouts = []) : s.startTransmission = s := by
  unfold State.startTransmission
  split
  · rfl
  · simp [h1, h2, h3]

/-- The answers on their way out are the same before and after. -/
theorem State.startTransmission_answersOut (s : State) :
    s.startTransmission.sli.answersOut = s.sli.answersOut := by
  unfold State.startTransmission
  split
  · rfl
  · next h =>
    split
    · next h' => simp [SiteLink.answersOut, h, h']
    · simp only [SiteLink.answersOut, State.onSli_sli, h, SiteLink.freeNoticePlace]
      split <;> rfl
    · simp [SiteLink.answersOut, h]
    · rfl

/-- So are the notices, but for a due NOTICES LOST notice. -/
theorem State.startTransmission_noticesOut {s : State} (hd : s.sli.noticesLostDue = false) :
    s.startTransmission.sli.noticesOut = s.sli.noticesOut := by
  unfold State.startTransmission
  split
  · rfl
  · next h =>
    split
    · next h' => simp [SiteLink.noticesOut, h]
    · next h' => simp [SiteLink.noticesOut, h, h', SiteLink.freeNoticePlace, hd]
    · simp [SiteLink.noticesOut, h]
    · rfl

/-! ## Orders -/

/-- An order that is taken: its body runs on the state that has heard the frame, and its answer joins the
queue (R168, R170, R177). -/
theorem orderCommand_taken {s : State} {time : Time} {tag : Byte} {params : List Byte}
    {body : List Byte → State → Reply} {code : AnswerCode} {data : List Byte} {f : State → State}
    (h : s.TakesOrders) (hl : params.length ≤ 338)
    (hb : body params (s.reachTime time).hearSite = ⟨f (s.reachTime time).hearSite, code, data⟩) :
    orderCommand time tag params body s = .next (s.afterOrder time tag code data f) := by
  obtain ⟨h1, h2, h3, h4⟩ := h
  have hp : params.length + 2 ≤ payloadLimit .site := by simp [payloadLimit]; omega
  have ha : (s.reachTime time).abandonSiteFrame = s.reachTime time := by
    simp [State.abandonSiteFrame, h2]
  have ho : ((s.reachTime time).hearSite).sli.overrun = false := by
    simp [State.hearSite, SiteLink.overrun, h3, h4]
  rw [orderCommand, complete_running h1]
  simp only [State.arriveOrder, ha, State.takeOrder, ho, hp, if_true, hb, Reply.queued,
    State.afterOrder]
  rfl

/-- The answers on their way out after an order: the answer is the last (R170). -/
theorem State.afterOrder_answersOut (s : State) (time : Time) (tag : Byte) (code : AnswerCode)
    (data : List Byte) (f : State → State) :
    (s.afterOrder time tag code data f).sli.answersOut =
      (f (s.reachTime time).hearSite).sli.answersOut ++ [⟨tag, code, data⟩] := by
  rw [State.afterOrder, State.startTransmission_answersOut]
  simp [SiteLink.answersOut]

end Sys2Proof.Machine
end

