-- ==== Sys2Proof/Laws/RackSide.lean ====
section
/-! SUPPORT. What the shared operations of the rack side (RLC, ISE and CHP) can change, said once: they leave
the air port, the sources, the programs, the tap, the schedule, Tour Control, the roster's entries and counts,
the handovers, the clock and the queue of commands as they stand. -/

namespace Sys2Proof.Machine

/-- `t` is `s` but for RLC, ISE, CHP, the site link, the uplink slot table and the tape of open orders; the rack
table and what the bays hold stand. -/
structure State.OnlyRackSide (s t : State) : Prop where
  rest : t = { s with
    rlc := t.rlc, ise := t.ise, chp := t.chp, sli := t.sli, choices := t.choices
    hrs := { s.hrs with slots := t.hrs.slots } }
  racks : t.rlc.racks = s.rlc.racks
  bays : ∀ r b, t.bay r b = { s.bay r b with reservation := (t.bay r b).reservation }

theorem State.OnlyRackSide.refl (s : State) : s.OnlyRackSide s := ⟨rfl, rfl, fun _ _ => rfl⟩

theorem State.OnlyRackSide.trans {s t u : State} (h1 : s.OnlyRackSide t) (h2 : t.OnlyRackSide u) :
    s.OnlyRackSide u := by
  refine ⟨?_, h2.racks.trans h1.racks, fun r b => ?_⟩
  · have a := h1.rest
    have b := h2.rest
    rw [b]
    rw [a]
  · have a := h1.bays r b
    have c := h2.bays r b
    rw [c]
    rw [a]

theorem State.OnlySiteLink.rackSide {s t : State} (h : s.OnlySiteLink t) : s.OnlyRackSide t := by
  rw [State.OnlySiteLink] at h
  rw [h]
  exact ⟨rfl, rfl, fun _ _ => rfl⟩

/-! ## Requests and plans -/

/-- An update of RLC that keeps racks and bays. -/
theorem State.onRlc_rackSide (s : State) (f : RackController → RackController)
    (h1 : (f s.rlc).racks = s.rlc.racks) (h2 : (f s.rlc).bays = s.rlc.bays) :
    s.OnlyRackSide (s.onRlc f) := by
  refine ⟨rfl, h1, fun r b => ?_⟩
  simp only [State.bay, State.onRlc_rlc, h2]

theorem State.onIse_rackSide (s : State) (f : IssueEngine → IssueEngine) :
    s.OnlyRackSide (s.onIse f) := ⟨rfl, rfl, fun _ _ => rfl⟩

theorem State.onChp_rackSide (s : State) (r : Fin 8) (f : ChargePlanner → ChargePlanner) :
    s.OnlyRackSide (s.onChp r f) := ⟨rfl, rfl, fun _ _ => rfl⟩

theorem State.setSlot_rackSide (s : State) (k : Fin 16) (v : UplinkState) :
    s.OnlyRackSide (s.setSlot k v) := ⟨rfl, rfl, fun _ _ => rfl⟩

/-- Pending CHARGEs that join change the queue and the pending table alone (R132). -/
theorem RackController.joinPending_keeps (k : Nat) (c : RackController) :
    RackController.joinPending k c = { c with
      queue := (RackController.joinPending k c).queue
      pendingCharge := (RackController.joinPending k c).pendingCharge } := by
  induction k generalizing c with
  | zero => rfl
  | succ k ih =>
    unfold RackController.joinPending
    split
    · split
      · rfl
      · split
        · rfl
        · rw [ih]
    · rfl

/-- Starting an exchange keeps racks and bays (R126). -/
theorem RackController.startExchange_keeps (c : RackController) :
    c.startExchange.racks = c.racks ∧ c.startExchange.bays = c.bays := by
  unfold RackController.startExchange
  split
  · rw [RackController.joinPending_keeps]; exact ⟨rfl, rfl⟩
  · exact ⟨rfl, rfl⟩

/-- So does joining the queue (R126). -/
theorem RackController.append_keeps (x : Exchange) (c : RackController) :
    (c.append x).racks = c.racks ∧ (c.append x).bays = c.bays :=
  RackController.startExchange_keeps _

/-- So does a CHARGE that joins (R132). -/
theorem RackController.joinCharge_keeps (r : Fin 8) (levels : Table 24 ChargeLevel)
    (c : RackController) :
    (c.joinCharge r levels).racks = c.racks ∧ (c.joinCharge r levels).bays = c.bays := by
  unfold RackController.joinCharge
  split
  · exact ⟨rfl, rfl⟩
  · split
    · exact RackController.append_keeps _ c
    · exact ⟨rfl, rfl⟩

/-- Entries that leave the queue change the queue and the pending table alone (R124, R129, R132). -/
theorem RackController.removeEntries_keeps (r : Fin 8) (drop : RackRequest → Bool)
    (c : RackController) :
    c.removeEntries r drop = { c with
      queue := (c.removeEntries r drop).queue
      pendingCharge := (c.removeEntries r drop).pendingCharge } := by
  unfold RackController.removeEntries
  rw [RackController.joinPending_keeps]

/-- Marking the exchange in flight changes nothing else (R124). -/
theorem RackController.markInFlight_keeps (r : Fin 8) (c : RackController) :
    c.markInFlight r = { c with inFlight := (c.markInFlight r).inFlight } := rfl

/-- A reply of a rack that has left service raises REPLIES alone (R124, R127). -/
theorem State.rackReplied_left (s : State) (r : Fin 8) :
    s.rackReplied r true = s.onRack r fun k => { k with replies := bump k.replies } := rfl

/-- A timeout of a rack that has left service raises TIMEOUTS alone (R124, R128). -/
theorem State.rackTimedOut_left (s : State) (r : Fin 8) :
    s.rackTimedOut r true = s.onRack r fun k => { k with timeouts := bump k.timeouts } := rfl

theorem State.refuseRequest_rackSide (s : State) : s.OnlyRackSide s.refuseRequest :=
  ⟨rfl, rfl, fun _ _ => rfl⟩

/-- The tape of open orders may be used up as well. -/
theorem State.OnlyRackSide.choices {s t : State} (h : s.OnlyRackSide t) (v : List Bool) :
    s.OnlyRackSide { t with choices := v } := h.trans ⟨rfl, rfl, fun _ _ => rfl⟩

theorem State.requestCharge_rackSide (s : State) (r : Fin 8) (levels : Table 24 ChargeLevel) :
    s.OnlyRackSide (s.requestCharge r levels).1 := by
  unfold State.requestCharge
  split
  · exact s.onRlc_rackSide _ (RackController.joinCharge_keeps ..).1
      (RackController.joinCharge_keeps ..).2
  · exact s.refuseRequest_rackSide

theorem State.requestIssue_rackSide (s : State) (r : Fin 8) (q : RackRequest) :
    s.OnlyRackSide (s.requestIssue r q).1 := by
  unfold State.requestIssue
  split
  · exact s.onRlc_rackSide _ (RackController.append_keeps ..).1 (RackController.append_keeps ..).2
  · exact s.refuseRequest_rackSide

theorem State.judgeCharge_rackSide (s : State) (r : Fin 8) : s.OnlyRackSide (s.judgeCharge r) := by
  unfold State.judgeCharge
  dsimp only
  split
  · have h := s.requestCharge_rackSide r (s.chp.get r).plan
    split <;> rename_i heq <;> rw [heq] at h <;> exact h.trans (State.onChp_rackSide _ _ _)
  · exact .refl s

theorem State.planRack_rackSide (s : State) (r : Fin 8) : s.OnlyRackSide (s.planRack r) :=
  (s.onChp_rackSide r _).trans (State.judgeCharge_rackSide _ r)

/-! ## Transactions -/

theorem State.setTransaction_rackSide (s : State) (i : Fin 4) (v : Option Transaction) :
    s.OnlyRackSide (s.setTransaction i v) := s.onIse_rackSide _

theorem State.askImage_rackSide (s : State) (i : Fin 4) : s.OnlyRackSide (State.askImage i s) := by
  unfold State.askImage
  split
  · exact .refl s
  · next t ht =>
    have h := s.requestIssue_rackSide t.rack (.image t.bay t.image)
    split <;> rename_i heq <;> rw [heq] at h
    · exact h.trans ((State.onIse_rackSide _ _).trans (State.onIse_rackSide _ _))
    · exact h.trans (State.onIse_rackSide _ _)

theorem State.askRelease_rackSide (s : State) (i : Fin 4) :
    s.OnlyRackSide (State.askRelease i s) := by
  unfold State.askRelease
  split
  · exact .refl s
  · next t ht =>
    have h := s.requestIssue_rackSide t.rack (.release t.bay t.imageTag)
    split <;> rename_i heq <;> rw [heq] at h
    · exact h.trans ((State.onIse_rackSide _ _).trans (State.onIse_rackSide _ _))
    · exact h.trans (State.onIse_rackSide _ _)

/-- A reservation put on or taken off a bay. -/
theorem State.onBay_rackSide (s : State) (r : Fin 8) (b : Fin 24) (f : Bay → Bay)
    (h : ∀ y, f y = { y with reservation := (f y).reservation }) : s.OnlyRackSide (s.onBay r b f) := by
  refine ⟨rfl, rfl, fun r' b' => ?_⟩
  simp only [State.bay, State.onBay_rlc, Table.get_modify]
  split
  · rw [Table.get_modify]
    split
    · exact h _
    · rfl
  · rfl

theorem State.reserveFor_rackSide (s : State) (i : Fin 4) (w : Assignment) :
    s.OnlyRackSide (s.reserveFor i w) := by
  cases w with
  | listener p t => exact .refl s
  | speaker t k => exact s.setSlot_rackSide k _

theorem State.releaseReservation_rackSide (s : State) (k : Fin 16) (i : Fin 4) :
    s.OnlyRackSide (s.releaseReservation k i) := by
  unfold State.releaseReservation
  split
  · exact s.setSlot_rackSide k _
  · exact .refl s

theorem State.createTransaction_rackSide (s : State) (i : Fin 4) (r : Fin 8) (b : Fin 24)
    (id : HandsetId) (work : Assignment) (origin : Origin) :
    s.OnlyRackSide (s.createTransaction i r b id work origin) := by
  unfold State.createTransaction
  dsimp only
  refine State.inEitherOrder_keeps (P := fun u => s.OnlyRackSide u) ?_
    (fun u hu => hu.trans (u.askImage_rackSide i)) (fun u hu => hu.trans (u.planRack_rackSide r))
  apply State.OnlyRackSide.choices
  exact (((s.onIse_rackSide _).trans (State.setTransaction_rackSide _ i _)).trans
    (State.reserveFor_rackSide _ i work)).trans (State.onBay_rackSide _ r b _ fun _ => rfl)

theorem State.select_rackSide {s t : State} {i : Fin 4} {r : Fin 8} {target : IssueTarget}
    {named : Option (Fin 24)} {origin : Origin} (h : s.select i r target named origin = .ok t) :
    s.OnlyRackSide t := by
  unfold State.select at h
  split at h
  · cases h
  · split at h
    · cases h
    · cases h
      exact s.createTransaction_rackSide ..

theorem State.takeDefault_rackSide (s : State) (r : Fin 8) : s.OnlyRackSide (s.takeDefault r) := by
  have h0 : s.OnlyRackSide (s.setTakeRequest r none) := s.onIse_rackSide _
  have hd (x : Notice) : s.OnlyRackSide ((s.setTakeRequest r none).sendNotice x) :=
    h0.trans (State.sendNotice_only _ _).rackSide
  unfold State.takeDefault
  dsimp only
  split
  · exact hd _
  · split
    · exact hd _
    · split
      · exact hd _
      · split
        · exact hd _
        · exact hd _
        · next t ht =>
          have h1 := h0.trans (State.select_rackSide ht)
          split
          · exact h1.trans (State.sendNotice_only _ _).rackSide
          · exact h1

theorem State.createTakeRequest_rackSide (s : State) (r : Fin 8) :
    s.OnlyRackSide (s.createTakeRequest r) := by
  unfold State.createTakeRequest
  split
  · exact (State.queueNotice_only _ _ _).rackSide.trans (State.onIse_rackSide _ _)
  · exact s.takeDefault_rackSide r

theorem State.takePresses_rackSide (s : State) (r : Fin 8) (p : Nat) :
    s.OnlyRackSide (s.takePresses r p) := by
  unfold State.takePresses
  split
  · exact (s.sendNotice_only _).rackSide
  · split
    · exact .refl s
    · split
      · exact s.onIse_rackSide _
      · exact s.createTakeRequest_rackSide r

theorem State.actOnLatch_rackSide (s : State) (r : Fin 8) : s.OnlyRackSide (s.actOnLatch r) := by
  unfold State.actOnLatch
  split
  · exact (s.onIse_rackSide _).trans (State.takePresses_rackSide _ r 1)
  · exact .refl s

theorem State.endReservation_rackSide (s : State) (i : Fin 4) (o : IssueOutcome) (w : Assignment) :
    s.OnlyRackSide (s.endReservation i o w) := by
  cases w with
  | listener p t => exact .refl s
  | speaker t k =>
    simp only [State.endReservation]
    split
    · exact .refl s
    · exact s.releaseReservation_rackSide k i

/-- The end of a transaction changes the rack side and the slot table alone (R149). -/
theorem State.endTransaction_rackSide (s : State) (i : Fin 4) (o : IssueOutcome)
    (result : Option (EntryStateName × Option Assignment)) :
    s.OnlyRackSide (s.endTransaction i o result) := by
  unfold State.endTransaction
  split
  · exact .refl s
  · next t ht =>
    dsimp only
    have h1 : s.OnlyRackSide (s.clearReservation t.rack t.bay i) :=
      s.onBay_rackSide _ _ _ fun y => by split <;> rfl
    exact ((((h1.trans (State.planRack_rackSide _ _)).trans
      (State.endReservation_rackSide _ i o t.work)).trans
      (State.setTransaction_rackSide _ i none)).trans
      (State.sendNotice_only _ _).rackSide).trans (State.actOnLatch_rackSide _ _)

end Sys2Proof.Machine
end

