-- ==== Sys2Proof/Tests/Slice0.lean ====
section
/-! SUPPORT. The model's own tests: ill-formed terms that WellFormed refuses, one or two tests a command with
results from the spec's words and worked examples, and for each statement with hypotheses a state and operands
that meet them, clause by clause. -/

namespace Sys2Proof.Tests

open Sys2Proof Sys2Proof.Machine

/-! Theorems are elaborated one after another: all at once they would need more memory than a check allows. -/

set_option Elab.async false

/-! ## Ill-formed terms, one for each check -/

theorem test_refuses_short_arrival : (Instr.uplinkArrival [0, 0, 0]).wellFormed = false := by decide

theorem test_refuses_map_code_fetch : (Instr.fetch 0x30 0).wellFormed = false := by decide

theorem test_refuses_short_feed : (Instr.feedFrame 0 [16, 0, 1]).wellFormed = false := by decide

theorem test_refuses_short_status : (Instr.bayStatus 0 [0, 0, 0]).wellFormed = false := by decide

theorem test_refuses_short_charge_ack : (Instr.chargeAck 0 [0]).wellFormed = false := by decide

theorem test_refuses_short_image_ack : (Instr.imageAck 0 [0, 1]).wellFormed = false := by decide

theorem test_refuses_long_release_ack : (Instr.releaseAck 0 [0, 1, 2]).wellFormed = false := by decide

theorem test_refuses_unknown_reply_kind : (Instr.strayReply 0 0x95 [0]).wellFormed = false := by decide

theorem test_refuses_empty_line : (Instr.discardedFrame 0 .site []).wellFormed = false := by decide

theorem test_refuses_long_order :
    (Instr.mask 0 0 (List.replicate 339 0)).wellFormed = false := by decide +kernel

theorem test_refuses_defined_code_as_unknown :
    (Instr.unknownOrderCode 0 0 0x17 []).wellFormed = false := by decide

/-! ## States the tests start from -/

/-- The state a command leads to. -/
def after (c : Instr) (s : State) : State :=
  match exec c s with
  | .next t => t
  | .fault f => nomatch f
  | .refused _ => s

/-- In DAY with superframes running, the last strobe at time 0. -/
def onAir : State := { State.reset with
  ap := { AirPort.reset with
    sync := .synced, lastStrobe := some 0, intervalCount := 4, reference := some 0 }
  sli := { SiteLink.reset with mode := .day } }

/-- In FLYWHEEL with a count of `n`. -/
def flying (n : Nat) : State :=
  onAir.onAp fun a => { a with sync := .flywheel, flywheel := n }

/-- In SYNCING after a strobe at time 0, with an interval count of `n`. -/
def syncing (n : Nat) : State := { State.reset with
  ap := { AirPort.reset with sync := .syncing, lastStrobe := some 0, intervalCount := n }
  sli := { SiteLink.reset with mode := .day } }

/-- Two receivers out of a rack's sight and two microphones, entries 0 to 3. -/
def receiver (st : EntryState) : RosterEntry := ⟨7, .receiver, st, 50, false, none, none⟩

/-- A microphone. -/
def microphone (st : EntryState) : RosterEntry := ⟨9, .mic, st, 50, false, none, none⟩

/-- `s` with one roster entry. -/
def withEntry (s : State) (x : RosterEntry) : State := s.setEntry 0 (some x)

/-- Program 8 is OPEN for tour 2. -/
def openProgram (s : State) : State := s.onProgram 8 fun r => { r with isOpen := true, tour := 2 }

/-- An exchange in flight, its request sent. -/
def awaiting (s : State) (x : Exchange) : State :=
  s.onRlc fun c => { c with inFlight := some ⟨x, some 20000, false⟩ }

/-- A frame in transmission. -/
def sending (s : State) (f : OutFrame) : State := s.onSli fun l => { l with transmitting := some f }

/-- A block of 160 samples of the same value. -/
def flat (v : Int) : Block := List.replicate 160 v

theorem withEntry_get (s : State) (x : RosterEntry) (e : Fin 512) :
    (withEntry s x).entry e = if 0 = e then some x else s.entry e := by
  simp [withEntry, State.entry, Table.get_set]

theorem reset_entry (e : Fin 512) : State.reset.entry e = none := by
  show (Table.fill 512 (none : Option RosterEntry)).get e = none
  simp

/-- In a roster with one handset, its ID stands in its entry alone. -/
theorem withEntry_unique (s : State) (x : RosterEntry) (hs : ∀ e, s.entry e = none) (e' : Fin 512)
    (x' : RosterEntry) (h : (withEntry s x).entry e' = some x') : e' = 0 := by
  rw [withEntry_get] at h
  split at h
  · next h0 => exact h0.symm
  · rw [hs] at h; cases h

/-! ## The part as a whole -/

theorem witness_queue_and_clock :
    ∃ t, exec .windowExpiry State.reset = .next t := ⟨_, rfl⟩

theorem witness_held_part :
    ({ State.reset with resetHeld := true } : State).resetHeld = true ∧
      Instr.frameSent 0 ≠ .resetNAssert ∧ ∀ time, Instr.frameSent 0 ≠ .resetNRelease time :=
  ⟨rfl, by decide, fun _ => by simp⟩

theorem witness_reset_release :
    ({ State.reset with resetHeld := true } : State).now ≤ 0 := Nat.le_refl 0

theorem test_reset_assert_holds : (after .resetNAssert onAir).resetHeld = true := by decide +kernel

theorem test_reset_assert_sends_no_control_word :
    (after .resetNAssert onAir).ap.adatOut = [] := by decide +kernel

theorem test_reset_release_starts_poll_timer :
    (after (.resetNRelease 5) { State.reset with resetHeld := true }).rlc.pollTimer = some 100005 := by
  decide +kernel

theorem test_step_runs_front :
    ∃ t, step { State.reset with pending := [.resetNAssert] } = .next t ∧ t.resetHeld = true ∧
      t.pending = [] := ⟨_, rfl, rfl, rfl⟩

theorem test_no_word_spells_a_command : State.reset.withFetchWord 16 0x1234 = State.reset := rfl

/-- R167: the check value of the CRC with this polynomial and start value over "123456789", from the family
of CRCs the rule names by its polynomial. -/
theorem test_crc_check_value :
    crcOf [0x31, 0x32, 0x33, 0x34, 0x35, 0x36, 0x37, 0x38, 0x39] = 0x29B1 := by decide +kernel

theorem witness_frames_round_trip :
    kindAllows .site 0x02 (List.replicate 340 (0xA5 : Byte)).length = true ∧
      (List.replicate 340 (0xA5 : Byte)).length ≤ payloadLimit .site ∧
      kindAllows .rack 0x94 [(7 : Byte), 0xA6].length = true ∧
      [(7 : Byte), 0xA6].length ≤ payloadLimit .rack := by decide +kernel

theorem test_escaped_frame_is_received :
    receiveLine .rack .hunt (frameLine 0x94 [0xA5, 0xA6]) = (.hunt, [.good 0x94 [0xA5, 0xA6]]) := by
  decide +kernel

theorem witness_discarded_frames :
    State.reset.resetHeld = false ∧ State.reset.sli.receive = .hunt ∧ State.reset.rlc.receive = .hunt ∧
      ((List.replicate 340 (0 : Byte)).length ≤ payloadLimit .site ∧
        kindAllows .site 0x03 (List.replicate 340 (0 : Byte)).length = false ∧
        [(0 : Byte)].length ≤ payloadLimit .rack ∧
        kindAllows .rack 0x94 [(0 : Byte)].length = false) ∧
      ((0 : BitVec 16) ≠ crcOf (frameBody 0x02 [0x2A, 0x18]) ∧
        (0 : BitVec 16) ≠ crcOf (frameBody 0x94 [7, 23])) ∧
      (payloadLimit .site < (341 : BitVec 16).toNat ∧ payloadLimit .rack < (261 : BitVec 16).toNat ∧
        payloadLimit .site < (0xFFFF : BitVec 16).toNat) ∧
      ((0xFE : Byte) ≠ 0xA5 ∧ (0xFE : Byte) ≠ 0xFF ∧ (0xFE : Byte) ≠ 0xFC) ∧
      (State.reset.onSli fun l => { l with receive := .inFrame [2] false }).sli.receive =
        .inFrame [2] false ∧
      (State.reset.onRlc fun c => { c with receive := .inFrame [0x94] true }).rlc.receive =
        .inFrame [0x94] true := by decide +kernel

theorem test_wrong_escape_is_counted :
    (after (.discardedFrame 0 .rack [0xA5, 0xA6, 0x01]) State.reset).rlc.rackFrameErrors = 1 := by
  decide +kernel

/-- Orders among the bytes of a line are taken. On an idle line the first answer starts at once, so that the sixteen
behind it wait and the eighteenth order is the one overrun (R169, R170). -/
theorem test_orders_of_one_line :
    let t := after (.discardedFrame 0 .site (List.replicate 18 (frameLine 0x02 [0x2A, 0x18])).flatten)
      State.reset
    t.sli.transmitting = some (.answer ⟨0x2A, .malformed, []⟩) ∧ t.sli.answers.length = 16 ∧
      t.sli.orderOverruns = 1 := by decide +kernel

theorem witness_frame_sent :
    (sending State.reset (.answer ⟨1, .done, []⟩)).sli.transmitting = some (.answer ⟨1, .done, []⟩) ∧
      (sending State.reset (.answer ⟨1, .done, []⟩)).sli.resetPending = none ∧
      (sending State.reset (.answer ⟨1, .done, []⟩)).resetHeld = false ∧
      (sending State.reset (.answer ⟨1, .done, []⟩)).now ≤ 0 := by decide +kernel

/-- The RESET answer is in transmission. -/
def resetting (s : State) (scope : ResetScope) : State :=
  (sending s (.answer ⟨1, .done, []⟩)).onSli fun l => { l with resetPending := some scope }

theorem witness_resets (scope : ResetScope) :
    (resetting onAir scope).resetHeld = false ∧
      (resetting onAir scope).sli.transmitting = some (.answer ⟨1, .done, []⟩) ∧
      (resetting onAir scope).sli.answers = [] ∧
      (resetting onAir scope).sli.resetPending = some scope ∧ (resetting onAir scope).now ≤ 0 :=
  ⟨rfl, rfl, rfl, rfl, Nat.le_refl 0⟩

theorem test_reset_full_ends_superframes :
    (after (.frameSent 9) (resetting onAir .full)).ap.adatOut = [.controlWord 0 .a false] := by
  decide +kernel

theorem test_reset_air_keeps_day :
    (after (.frameSent 9) (resetting onAir .air)).ap.sync = .syncing := by decide +kernel

/-! ## Invariants -/

theorem witness_air_port_sound : onAir.ap.Sound := by
  constructor <;> decide +kernel

theorem witness_site_link_sound : State.reset.sli.Sound := by
  constructor <;> first | decide +kernel | simp [SiteLink.Settled, State.reset, SiteLink.reset]

theorem witness_rack_link_sound : onAir.rlc.Sound := by
  constructor <;> decide +kernel

theorem witness_recalls_sound : onAir.trc.Sound := by
  constructor <;> decide +kernel

theorem witness_transactions_apart : onAir.ise.Apart := by
  intro i j x y hx
  have : onAir.ise.transactions.get i = none := by
    show (Table.fill 4 (none : Option Transaction)).get i = none
    simp
  rw [this] at hx
  cases hx

theorem witness_plans_fit : onAir.PlansFit := by
  unfold State.PlansFit; decide +kernel

theorem witness_listeners_counted : onAir.ListenersCounted := by
  unfold State.ListenersCounted; decide +kernel

theorem witness_slots_agree : onAir.SlotsAgree := by
  constructor
  · intro k e
    have h1 : onAir.hrs.slots.get k = .free := by
      show (Table.fill 16 UplinkState.free).get k = .free
      simp
    have h2 : onAir.entry e = none := reset_entry e
    simp [h1, h2]
  · intro k i
    have h1 : onAir.hrs.slots.get k = .free := by
      show (Table.fill 16 UplinkState.free).get k = .free
      simp
    have h2 : onAir.transaction i = none := by
      show (Table.fill 4 (none : Option Transaction)).get i = none
      simp
    simp [h1, h2]

/-- Where one entry alone is not EMPTY, every handset stands in one entry (R86). -/
theorem one_entry_distinct (s : State) (h : ∀ e x, s.entry e = some x → e = 0) : s.EntriesDistinct :=
  ⟨fun e e' x x' hx hx' _ => (h e x hx).trans (h e' x' hx').symm,
    fun e e' x x' _ _ hx hx' _ _ => (h e x hx).trans (h e' x' hx').symm⟩

theorem witness_entries_distinct (x : RosterEntry) : (withEntry onAir x).EntriesDistinct :=
  one_entry_distinct _ fun e y h => withEntry_unique _ _ reset_entry e y h

/-- Programs 8 to 10 hold D0 to D2, program 11 waits, and all are OPEN. -/
def scheduled : State :=
  let s := { onAir with
    programs := onAir.programs.map fun r : Program => { r with isOpen := true } }
  s.onAts fun a =>
    (((a.gainSlot 0 8 0).gainSlot 0 9 1).gainSlot 0 10 2).joinTail 11

theorem witness_schedule_agrees : scheduled.ScheduleAgrees := by
  constructor <;> decide +kernel

/-! ## Air port -/

theorem witness_strobe_in_window :
    onAir.resetHeld = false ∧ (onAir.ap.sync = .synced ∨ onAir.ap.sync = .flywheel) ∧
      onAir.ap.reference = some 0 ∧ onAir.now ≤ 9900 ∧ 0 + 9900 ≤ 9900 ∧ 9900 ≤ 0 + 10100 := by
  decide +kernel

theorem witness_early_strobe :
    (onAir.ap.sync = .synced ∧ onAir.ap.reference = some 0 ∧ onAir.now ≤ 9899 ∧ 9899 < 0 + 9900) ∧
      State.reset.resetHeld = false ∧ State.reset.ap.sync = .stopped := by decide +kernel

theorem witness_syncing_strobes :
    ((syncing 0).onAp fun a => { a with lastStrobe := none }).ap.sync = .syncing ∧
      ((syncing 0).onAp fun a => { a with lastStrobe := none }).ap.lastStrobe = none ∧
      (syncing 3).ap.sync = .syncing ∧ (syncing 3).ap.lastStrobe = some 0 ∧
      9899 - 0 < 9900 ∧ 10100 < 10101 - 0 ∧ (syncing 2).ap.intervalCount < 3 ∧
      (syncing 3).ap.intervalCount = 3 ∧ (syncing 3).now ≤ 0 + 9900 ∧
      0 + 9900 ≤ 0 + 10100 := by decide +kernel

theorem witness_window_expiry :
    onAir.ap.reference = some 0 ∧ onAir.now ≤ 0 + 10100 ∧ onAir.ap.sync = .synced ∧
      (flying 6).ap.sync = .flywheel ∧ (flying 6).ap.flywheel < 7 ∧
      (flying 6).ap.reference = some 0 ∧ (flying 6).resetHeld = false := by decide +kernel

theorem witness_flywheel_runs_out :
    (flying 7).resetHeld = false ∧ (flying 7).ap.reference = some 0 ∧ (flying 7).now ≤ 0 + 10100 ∧
      (flying 7).ap.sync = .flywheel ∧ (flying 7).ap.flywheel = 7 ∧
      (flying 7).sli.syncLost = false ∧ (flying 7).Queues .syncLost := by
  unfold State.Queues; decide +kernel

theorem test_fifth_strobe_syncs : (after (.superframeStrobe 10100) (syncing 3)).ap.sync = .synced := by
  decide +kernel

theorem test_long_interval_starts_over :
    (after (.superframeStrobe 10101) (syncing 3)).ap.intervalCount = 0 := by decide +kernel

theorem test_flywheel_takes_time_strobe_was_due :
    (after .windowExpiry onAir).ap.reference = some 10000 := by decide +kernel

theorem test_eighth_flywheel_raises_sync_lost :
    (after .windowExpiry (flying 7)).sli.transmitting = some (.notice ⟨0, .syncLost⟩) := by
  decide +kernel

theorem witness_arrival_out_of_time :
    State.reset.ap.onAir = false ∧ onAir.ap.onAir = true ∧ (1 : Superframe) ≠ onAir.ap.superframe ∧
      (onAir.onAp fun a => { a with micMarks := a.micMarks.set 15 (some 0) }).ap.micMarks.get 15 =
        some 0 ∧
      (onAir.onAp fun a => { a with reportMarks := a.reportMarks.set 3 (some 0) }).ap.reportMarks.get 3 =
        some 0 := by decide +kernel

/-- A microphone bound to U15. -/
def micOut : State :=
  (withEntry onAir (microphone (.issued (.speaker 3 15) 100))).onHrs fun h =>
    { h with slots := h.slots.set 15 (.bound 0) }

theorem witness_good_mic_block :
    micOut.resetHeld = false ∧ micOut.ap.onAir = true ∧ (15 : Fin 24).val = (15 : Fin 16).val ∧
      micOut.hrs.slots.get 15 = .bound 0 ∧
      micOut.entry 0 = some (microphone (.issued (.speaker 3 15) 100)) ∧
      micOut.ap.micMarks.get 15 ≠ some micOut.ap.superframe ∧ (flat (-32768)).length = 160 ∧
      (∀ v ∈ flat (-32768), -32768 ≤ v ∧ v ≤ 32767) := by decide +kernel

/-- Each sort of missing block at the length where it ends. -/
theorem witness_missing_blocks :
    ((2 : Byte) = 2) ∧ ((1 : Byte) ≠ 0 ∧ (1 : Byte) ≠ 2) ∧ (List.replicate 324 (0 : Byte)).length < 325 ∧
      325 ≤ (List.replicate 325 (0 : Byte)).length ∧
      (List.replicate 325 (0 : Byte)).take 3 ≠ idBytes (microphone (.issued (.speaker 3 15) 100)).id := by
  decide +kernel

/-- The worked example of spec 03: a raw sample of 6000 under a source gain of 2048 is 12000. -/
theorem test_gain_scales_good_block :
    ((after (.uplinkArrival ([15, 0, 0, 0] ++ idBytes 9 ++ [1, 40] ++ sampleBytes (flat 6000)))
      (micOut.onSource 15 fun r => { r with gain := 2048 })).source 15).store =
        [⟨0, flat 12000⟩] := by decide +kernel

theorem test_foreign_block_is_missing :
    ((after (.uplinkArrival ([15, 0, 0, 0] ++ idBytes 8 ++ [1, 40] ++ sampleBytes (flat 6000)))
      micOut).source 15).lastArrival = some (0, .foreign) := by decide +kernel

theorem witness_air_error_counter :
    onAir.resetHeld = false ∧ onAir.ap.onAir = true ∧
      onAir.ap.micMarks.get 0 ≠ some onAir.ap.superframe ∧
      325 ≤ (List.replicate 325 (0 : Byte)).length ∧ onAir.ap.airErrors < 31 ∧
      (onAir.onAp fun a => { a with airErrors := 31 }).ap.airErrors = 31 ∧
      (onAir.onAp fun a => { a with airErrors := 31 }).ap.guardCount = 500 ∧
      (onAir.onAp fun a => { a with airErrors := 31, guardCount := 499 }).ap.guardCount < 500 ∧
      onAir.hrs.slots.get 0 = .free ∧ onAir.Queues (.interference .b) := by
  unfold State.Queues; decide +kernel

theorem test_overflow_toggles_plan :
    (after (.uplinkArrival [0, 1, 0, 0]) (onAir.onAp fun a => { a with airErrors := 31 })).ap.plan =
      .b := by decide +kernel

theorem test_overflow_behind_guard_degrades :
    (after (.uplinkArrival [0, 1, 0, 0])
      (onAir.onAp fun a => { a with airErrors := 31, guardCount := 499 })).sli.airDegraded = true := by
  decide +kernel

theorem witness_report :
    (withEntry onAir (receiver (.issued (.listener 8 2) 1))).resetHeld = false ∧
      onAir.ap.onAir = true ∧ onAir.ap.reportMarks.get 3 ≠ some onAir.ap.superframe ∧
      (withEntry onAir (receiver (.issued (.listener 8 2) 1))).entry 0 =
        some (receiver (.issued (.listener 8 2) 1)) ∧
      (withEntry onAir (receiver (.missing (.listener 8 2)))).entry 0 =
        some (receiver (.missing (.listener 8 2))) ∧
      (∀ e' x', (withEntry onAir (receiver (.missing (.listener 8 2)))).entry e' = some x' →
        x'.id = (7 : HandsetId) → e' = 0) ∧ (7 : HandsetId) ≠ 0 ∧ 10 ≤ 100 ∧ 15 ≤ 15 ∧
      (withEntry onAir (receiver (.missing (.listener 8 2)))).Queues
        (.found 7 .receiver (.listener 8 2) 100 (some 15)) := by
  refine ⟨by decide +kernel, by decide +kernel, by decide +kernel, by decide +kernel,
    by decide +kernel, fun e' x' h _ => withEntry_unique _ _ reset_entry e' x' h, by decide,
    by decide, by decide, by unfold State.Queues; decide +kernel⟩

/-- A receiver out for program 8 of tour 2, with program 9 OPEN for the same tour and program 10 CLOSED. -/
def listening (st : EntryState) (low : Bool) : State :=
  (withEntry (openProgram onAir) { receiver st with lowBattery := low }).onProgram 9 fun r =>
    { r with isOpen := true, tour := 2 }

theorem listening_distinct (st : EntryState) (low : Bool) : (listening st low).EntriesDistinct :=
  one_entry_distinct _ fun e y h => withEntry_unique (openProgram onAir) _ reset_entry e y h

theorem witness_roster_reports :
    let s := listening (.issued (.listener 8 2) 1) false
    let m := listening (.missing (.listener 8 2)) false
    ((7 : HandsetId) ≠ 0 ∧ (1 : Byte).toNat ≤ 1 ∧ 1 < (2 : Byte).toNat) ∧
      s.entry 0 = some { receiver (.issued (.listener 8 2) 1) with lowBattery := false } ∧
      ((1 : Byte) ≠ if (receiver (.issued (.listener 8 2) 1)).kind = .receiver then 0 else 1) ∧
      ((listening (.docked 7 23) false).entry 0).map RosterEntry.state = some (.docked 7 23) ∧
      ((listening .loose false).entry 0).map RosterEntry.state = some .loose ∧
      ((listening .recalled false).entry 0).map RosterEntry.state = some .recalled ∧
      ((9 : Byte) = .ofNat 8 (9 : Fin 32).val ∧ (9 : Fin 32) ≠ 8 ∧ (s.program 9).isOpen = true ∧
        (s.program 9).tour = 2) ∧
      32 ≤ (32 : Byte).toNat ∧ ((10 : Byte) = .ofNat 8 (10 : Fin 32).val ∧ (s.program 10).isOpen = false) ∧
      ((8 : Byte) = .ofNat 8 (8 : Fin 32).val ∧ min 100 (9 : Byte).toNat < 10 ∧
        10 ≤ min 100 (10 : Byte).toNat ∧
        s.Queues (.lowBattery 7 .receiver 9 .issued (some (.listener 8 2)))) ∧
      ((listening (.issued (.listener 8 2) 1) true).entry 0).map RosterEntry.lowBattery = some true ∧
      ((m.entry 0).map RosterEntry.state = some (.missing (.listener 8 2)) ∧ m.sli.notices.length < 15 ∧
        m.masked (.lowBattery 7 .receiver 9 .issued none) = false ∧
        m.Queues (.found 7 .receiver (.listener 8 2) 9 (some (min 15 (16 : Byte).toNat)))) := by
  unfold State.Queues; decide +kernel

theorem witness_roster_report_settled (low : Bool) :
    (listening (.issued (.listener 8 2) 1) low).sli.Settled := fun _ => ⟨rfl, rfl, rfl⟩

/-- A microphone whose report keeps it ISSUED or finds it MISSING, with room for two notices and no more. -/
theorem witness_mic_reports :
    let waits (s : State) : State := s.onSli fun l => { l with
      transmitting := some (.answer ⟨1, .done, []⟩), notices := List.replicate 14 ⟨0, .syncLost⟩ }
    let s := waits (withEntry onAir (microphone (.issued (.speaker 3 15) 1)))
    let m := waits (withEntry onAir (microphone (.missing (.speaker 3 15))))
    (s.resetHeld = false ∧ s.ap.onAir = true ∧ s.ap.reportMarks.get 3 ≠ some s.ap.superframe) ∧
      ((9 : HandsetId) ≠ 0 ∧ (1 : Byte).toNat ≤ 1 ∧
        s.entry 0 = some (microphone (.issued (.speaker 3 15) 1)) ∧
        m.entry 0 = some (microphone (.missing (.speaker 3 15))) ∧
        (1 : Byte) = if (microphone .loose).kind = .receiver then 0 else 1) ∧
      (min 100 (9 : Byte).toNat < 10 ∧ ¬min 100 (10 : Byte).toNat < 10 ∧
        (microphone .loose).lowBattery = false) ∧
      (s.masked (.lowBattery 9 .mic 9 .issued (some (.speaker 3 15))) = false ∧
        m.masked (.found 9 .mic (.speaker 3 15) 9 (some 15)) = false ∧
        m.sli.noticesLostDue = false ∧ m.sli.notices.length + 2 ≤ 16) := by decide +kernel

/-- Those microphones stand in one entry each, and no expiry of theirs waits. -/
theorem witness_mic_reports_calm (w : Assignment) :
    (withEntry onAir (microphone (.issued (.speaker 3 15) 1))).EntriesDistinct ∧
      (microphone (.issued (.speaker 3 15) 1)).state ≠ .issued w 0 ∧
      (microphone (.missing (.speaker 3 15))).state ≠ .issued w 0 :=
  ⟨witness_entries_distinct _, by simp [microphone], by simp [microphone]⟩

/-- A stranger with ID 5, the filter's entry 7 for microphones of IDs 4 to 7 used, and these strays. -/
def straying (valid : Bool) (strays : List Stray) : State := onAir.onHrs fun h => { h with
  filter := h.filter.set 7 ⟨true, 4, 3, .mic⟩
  filterValid := valid
  strays := strays }

theorem witness_strangers :
    let many : List Stray := [⟨11, 0⟩, ⟨12, 0⟩, ⟨13, 0⟩, ⟨14, 0⟩, ⟨15, 0⟩, ⟨16, 0⟩, ⟨17, 0⟩]
    let s := straying true many
    (∀ e, s.entry e = none) ∧ (straying false many).hrs.filterValid = false ∧ s.hrs.filterValid = true ∧
      ((s.hrs.filter.get 7).used = true ∧
        (∀ i : Nat, i < 24 → (s.hrs.filter.get 7).mask.getLsbD i = false →
          (5 : HandsetId).getLsbD i = (s.hrs.filter.get 7).pattern.getLsbD i) ∧
        (s.hrs.filter.get 7).kind = .mic) ∧
      (∀ i', i' < 7 → (s.hrs.filter.get i').used = false) ∧
      ((5 : HandsetId) ∉ s.hrs.strays.map Stray.id ∧ s.hrs.strays.length < 8) ∧
      ((straying true (⟨5, 999⟩ :: many)).hrs.strays = [] ++ ⟨5, 999⟩ :: many ∧
        (5 : HandsetId) ∉ ([] ++ many).map Stray.id ∧ (999 : Nat) < 1000 ∧ 1000 ≤ (1000 : Nat)) ∧
      ((straying true (⟨10, 0⟩ :: many)).hrs.strays = ⟨10, 0⟩ :: many ∧ many.length = 7 ∧
        (5 : HandsetId) ∉ (straying true (⟨10, 0⟩ :: many)).hrs.strays.map Stray.id) ∧
      s.Queues (.stray 5 .mic none 100 15 7) := by
  unfold State.Queues; decide +kernel

theorem test_report_finds_missing_receiver :
    (after (.uplinkArrival ([19, 0, 0, 0] ++ idBytes 7 ++ [0, 8, 90, 15]))
      (withEntry onAir (receiver (.missing (.listener 8 2))))).sli.transmitting =
        some (.notice ⟨0, .found 7 .receiver (.listener 8 2) 90 (some 15)⟩) := by decide +kernel

theorem witness_fetches :
    onAir.resetHeld = false ∧ State.reset.ap.onAir = false ∧ onAir.ap.onAir = true ∧
      (onAir.onAp fun a => { a with buffers := a.buffers.set 11 ⟨some ⟨1, .program, []⟩, none⟩ }).ap.buffers.get
        11 = ⟨some ⟨1, .program, []⟩, none⟩ ∧ (onAir.ap.buffers.get 11).held = none ∧
      ahead 1 0 = true ∧ ahead 0x7FFF 0 = true ∧ ahead 0x8000 0 = false ∧
      onAir.ap.mapBuffer.held = none := by decide +kernel

theorem test_late_fetch_sends_fill :
    (after (.fetch 0x2B 1) onAir).ap.adatOut = [.downlink ⟨1, .fillForLateFetch, silence⟩] := by
  decide +kernel

theorem test_late_map_fetch_sends_void_map :
    (after (.mapFetch 0) onAir).ap.planRecord = some (1, .a) := by decide +kernel

/-- A block for D11 and a map wait to be placed. -/
def placing : State := onAir.onHandovers fun h =>
  { h with placements := [.downlink 11 ⟨1, .program, []⟩] }

/-- A map waits to be placed. -/
def placingMap : State := onAir.onHandovers fun h =>
  { h with placements := [.map (voidMap 1 .b)] }

theorem witness_placements :
    placing.resetHeld = false ∧ placing.handovers.placements = .downlink 11 ⟨1, .program, []⟩ :: [] ∧
      placingMap.handovers.placements = .map (voidMap 1 .b) :: [] := by decide +kernel

theorem test_placement_fills_buffer :
    ((after (.placement (.downlink 11)) placing).ap.buffers.get 11).held =
      some ⟨1, .program, []⟩ := by decide +kernel

theorem test_map_placement_takes_plan_in_force :
    (after (.placement .map) placingMap).ap.planRecord = some (1, .a) := by decide +kernel

/-- News of the microphone of U15 waits. -/
def heardState (st : EntryState) : State :=
  (((withEntry onAir (microphone st)).onHrs fun h => { h with slots := h.slots.set 15 (.bound 0) })
    ).onHandovers fun h => { h with heard := [⟨15, 6, 10⟩] }

theorem witness_heard_mic :
    (heardState (.missing (.speaker 3 15))).handovers.heard = ⟨15, 6, 10⟩ :: [] ∧
      (heardState (.missing (.speaker 3 15))).hrs.slots.get 15 = .bound 0 ∧
      (heardState (.missing (.speaker 3 15))).entry 0 = some (microphone (.missing (.speaker 3 15))) ∧
      (heardState (.issued (.speaker 3 15) 1)).entry 0 =
        some (microphone (.issued (.speaker 3 15) 1)) ∧
      (heardState (.missing (.speaker 3 15))).Queues (.found 9 .mic (.speaker 3 15) 10 none) := by
  unfold State.Queues; decide +kernel

theorem test_heard_mic_loads_countdown :
    ((after (.micHeard 15) (heardState (.issued (.speaker 3 15) 1))).entry 0).map RosterEntry.state =
      some (.issued (.speaker 3 15) 3000) := by decide +kernel

theorem witness_countdown_expiries :
    (withEntry onAir (receiver (.issued (.listener 8 2) 0))).entry 0 =
        some (receiver (.issued (.listener 8 2) 0)) ∧
      (onAir.onTrc fun c => { c with recalls := [⟨1, .key, 0⟩, ⟨2, .key, 5⟩] }).trc.recalls =
        [] ++ ⟨1, .key, 0⟩ :: [⟨2, .key, 5⟩] ∧
      (∀ o' ∈ ([] ++ [⟨2, .key, 5⟩] : List RecallOrder), o'.tour ≠ 1) ∧
      (withEntry onAir (receiver (.issued (.listener 8 2) 0))).Queues
        (.missing 7 .receiver (.listener 8 2) 50) := by
  unfold State.Queues; decide +kernel

theorem test_miss_expiry_makes_missing :
    ((after (.missCountdownExpiry 0)
      (withEntry onAir (receiver (.issued (.listener 8 2) 0)))).entry 0).map RosterEntry.state =
        some (.missing (.listener 8 2)) := by decide +kernel

/-- R89: the MISSING notice is headed by the last heard superframe number. -/
theorem test_missing_is_headed_by_last_heard :
    (after (.missCountdownExpiry 0) (withEntry onAir
      { receiver (.issued (.listener 8 2) 0) with lastHeard := some 6 })).sli.transmitting =
        some (.notice ⟨6, .missing 7 .receiver (.listener 8 2) 50⟩) := by decide +kernel

theorem test_recall_expiry_removes_order :
    (after (.recallCountdownExpiry 1)
      (onAir.onTrc fun c => { c with recalls := [⟨1, .key, 0⟩, ⟨2, .key, 5⟩] })).trc.recalls =
        [⟨2, .key, 5⟩] := by decide +kernel

/-! ## Sources, mixer, schedule, charging -/

/-- Stream 23 is ENABLED with this queue and reference sequence. -/
def streaming (q : List SeqNumber) (f : Option SeqNumber) : State :=
  onAir.onSource 23 fun r =>
    { r with enabled := true, queue := q.map fun n => ⟨n, flat 1⟩, referenceSeq := f }

theorem witness_feed_frame :
    (streaming [] none).resetHeld = false ∧ (streaming [] none).sli.receive = .hunt ∧
      16 ≤ (23 : Fin 24).val ∧ (streaming [] none).sli.mode = .day ∧
      ((streaming [] none).source 23).enabled = true ∧ ((streaming [] none).source 23).queue = [] ∧
      ((streaming [] none).source 23).referenceSeq = none ∧
      ((streaming [4] none).source 23).queue = [] ++ [⟨4, flat 1⟩] ∧ ahead 5 4 = true ∧
      ahead 4 4 = false ∧
      ((streaming [1, 2, 3, 4, 5, 6, 7, 8] none).source 23).queue.length = 8 ∧
      ahead 9 8 = true ∧ ((streaming [] (some 4)).source 23).referenceSeq = some 4 := by
  decide +kernel

/-- The full queue as the third clause spells it. -/
theorem witness_feed_overflow :
    ((streaming [1, 2, 3, 4, 5, 6, 7, 8] none).source 23).queue =
      ⟨1, flat 1⟩ :: ([2, 3, 4, 5, 6, 7].map fun n => ⟨n, flat 1⟩) ++ [⟨8, flat 1⟩] := by
  decide +kernel

theorem test_feed_overflow_drops_oldest :
    ((after (.feedFrame 0 ([23, 0, 9] ++ sampleBytes (flat 1)))
      (streaming [1, 2, 3, 4, 5, 6, 7, 8] none)).source 23).overflowDrops = 1 := by decide +kernel

theorem test_stale_feed_is_counted :
    ((after (.feedFrame 0 ([23, 0, 4] ++ sampleBytes (flat 1)))
      (streaming [4] none)).source 23).staleFeeds = 1 := by decide +kernel

/-- A stream with `n` blocks waiting, with these run counts. -/
def stream (st : StreamState) (n : Nat) (under high : Nat) : Source :=
  { Source.reset with
    enabled := true, stream := st, underrunRun := under, highMarkRun := high
    queue := (List.range n).map fun i => ⟨.ofNat 16 i, flat 9⟩ }

/-- Each row of a dequeue step at the number where it begins or ends. -/
theorem witness_dequeues :
    ((stream .priming 2 0 0).stream = .priming ∧ (stream .priming 2 0 0).queue.length < 3) ∧
      ((stream .running 0 1 0).queue = [] ∧ (stream .running 0 1 0).underrunRun < 2 ∧
        2 ≤ (stream .running 0 2 0).underrunRun) ∧
      ((stream .priming 3 0 0).queue.tail.length = 2 ∧ 2 ≤ (stream .priming 3 0 0).queue.tail.length) ∧
      ((stream .running 7 0 0).queue.tail.length ≤ 6 ∧ 6 < (stream .running 8 0 48).queue.tail.length ∧
        (stream .running 8 0 48).highMarkRun < 49 ∧ 49 ≤ (stream .running 8 0 49).highMarkRun) ∧
      ({ stream .running 1 0 0 with idleDetection := true, idlePattern := 9 }.idleDetection = true ∧
        ∀ v ∈ flat 9, (BitVec.ofInt 16 v ^^^ (9 : BitVec 16)) &&& 0xFFFF = 0) ∧
      (stream .running 1 0 0).idleDetection = false := by decide +kernel

/-- The worked example of spec 03, "a guide over a narration": sources 3 and 17 speak, and D5 is the slot. -/
def guided (x0 x1 x2 : Int) : State :=
  let s := (onAir.onSource 3 fun r => { r with detector := .active, store := [⟨798, flat x0⟩] })
  let s := (s.onSource 17 fun r => { r with detector := .active, store := [⟨798, flat x1⟩] })
  let s := s.onSource 4 fun r => { r with store := [⟨798, flat x2⟩] }
  let s := s.onProgram 6 fun r => { r with
    isOpen := true, mixList := [⟨3, 1024, 2⟩, ⟨17, 819, 1⟩, ⟨4, 1024, 2⟩] }
  s.onHandovers fun h => { h with mixSets := [⟨800, [(6, 5)]⟩] }

/-- Sample 0 of the example comes out as 10438. -/
theorem test_worked_mix_sample_0 :
    (after .mixRequestSet (guided 12000 (-8000) 40)).handovers.placements =
      [.downlink 5 ⟨800, .program, flat 10438⟩] := by decide +kernel

/-- One source at weight M, its block stored. -/
def mixing : State :=
  ((onAir.onSource 0 fun r => { r with store := [⟨0xFFFF, flat 30000⟩] }).onProgram 31 fun r =>
    { r with isOpen := true, mixList := [⟨0, 4095, 0⟩] }).onHandovers fun h =>
      { h with mixSets := [⟨1, [(31, 11)]⟩] }

theorem witness_mixes :
    mixing.resetHeld = false ∧ mixing.handovers.mixSets = ⟨1, [(31, 11)]⟩ :: [] ∧ mixing.tap = none ∧
      (some (11 : Fin 12)).toList.map (fun d => ((31 : Fin 32), d)) = [(31, 11)] ∧
      (mixing.program 31).isOpen = true ∧ (mixing.program 31).test = false ∧
      (mixing.program 31).mixList = [⟨0, 4095, 0⟩] ∧
      (mixing.source 0).blockTagged (1 - 2) = some ⟨0xFFFF, flat 30000⟩ ∧
      (flat 30000).length = 160 := by decide +kernel

/-- The tap on the program mixed, in each mode; a tap-only mix; and the test pattern at half-period 3, its phases 0 and
4 of the worked table. -/
theorem witness_mix_taps :
    let tapped (mode : TapMode) : State := { mixing with tap := some ⟨31, mode⟩ }
    let waits (n : Nat) : State := (tapped .audio).onSli fun l => { l with
      tapouts := List.replicate n ⟨31, 0, 0, []⟩ }
    let alone : State := (tapped .audio).onHandovers fun h => { h with mixSets := [⟨1, []⟩] }
    let pattern (phase : Nat) : Program := { Program.reset with
      isOpen := true, test := true, testHalfPeriod := 3, patternPhase := phase }
    (tapped .levelsOnce).tap = some ⟨31, .levelsOnce⟩ ∧
      ((1 : Superframe).toNat % 1 = 0 ∧ (1 : Superframe).toNat % 2 ≠ 0) ∧
      (tapped (.levelsEvery 2)).tap = some ⟨31, .levelsEvery 2⟩ ∧
      ((waits 1).sli.tapouts.length < 2 ∧ 2 ≤ (waits 2).sli.tapouts.length ∧
        (waits 2).tap = some ⟨31, .audio⟩) ∧
      (alone.tap = some ⟨31, .audio⟩ ∧ alone.handovers.mixSets =
        ⟨1, (none : Option (Fin 12)).toList.map fun d => (31, d)⟩ :: []) ∧
      ((pattern 0).test = true ∧ 1 ≤ (pattern 0).testHalfPeriod ∧
        (pattern 0).patternPhase < 2 * (pattern 0).testHalfPeriod ∧ (0 + 160) % (2 * 3) = 4 ∧
        (pattern 4).patternPhase < 2 * (pattern 4).testHalfPeriod ∧ (4 + 160) % (2 * 3) = 2) := by
  decide +kernel

/-- A mix in which each rule of R47 and R48 has a source: 3 speaks at class 2, the stream 17 is ducked at class 1, the
block of source 4 is one superframe older and halved, and the stream 16 is silent. -/
def ducking : State :=
  ((guided 12000 (-8000) 40).onSource 4 fun r => { r with store := [⟨797, flat (-3)⟩] }).onProgram 6 fun r =>
    { r with mixList := [⟨3, 1024, 2⟩, ⟨17, 819, 1⟩, ⟨4, 1024, 2⟩, ⟨16, 512, 2⟩] }

/-- Each of its sources' samples, and its weights, stand as the hypotheses ask. -/
theorem witness_mix_picks :
    let r := ducking.program 6
    let pick (e : MixEntry) : Block :=
      if e.source = 3 then flat 12000 else if e.source = 17 then flat (-8000)
      else if e.source = 4 then flat (-1) else flat 0
    let weight (e : MixEntry) : Nat := if e.source = 17 then 205 else e.gain
    let ducked (e : MixEntry) : Prop := ∃ e' ∈ r.mixList, e.duckClass < e'.duckClass ∧
      ((ducking.source e'.source).detector = .active ∨ (ducking.source e'.source).detector = .hanging)
    (ducking.tap = none ∧ r.isOpen = true ∧ r.test = false ∧
      ducking.handovers.mixSets = [⟨800, [(6, 5)]⟩] ∧ ∀ e ∈ r.mixList, (pick e).length = 160) ∧
      (∀ e ∈ r.mixList,
        (∃ b, (ducking.source e.source).blockTagged (800 - 2) = some b ∧ pick e = b.samples) ∨
        ((ducking.source e.source).blockTagged (800 - 2) = none ∧ e.source.val < 16 ∧
          ∃ b, (ducking.source e.source).blockTagged (800 - 3) = some b ∧
            pick e = b.samples.map fun v => (v * 512 + 512) / 1024) ∨
        ((ducking.source e.source).blockTagged (800 - 2) = none ∧
          (16 ≤ e.source.val ∨ (ducking.source e.source).blockTagged (800 - 3) = none) ∧
          pick e = List.replicate 160 0)) ∧
      ∀ e ∈ r.mixList, (ducked e → weight e = (e.gain * r.duckGain + 512) / 1024) ∧
        (¬ducked e → weight e = e.gain) := by
  refine ⟨by decide +kernel, ?_, by decide +kernel⟩
  have h : (ducking.program 6).mixList =
      [⟨3, 1024, 2⟩, ⟨17, 819, 1⟩, ⟨4, 1024, 2⟩, ⟨16, 512, 2⟩] := by decide +kernel
  intro e he
  rw [h] at he
  simp only [List.mem_cons, List.not_mem_nil, or_false] at he
  obtain rfl | rfl | rfl | rfl := he
  · exact .inl ⟨⟨798, flat 12000⟩, by decide +kernel, by decide +kernel⟩
  · exact .inl ⟨⟨798, flat (-8000)⟩, by decide +kernel, by decide +kernel⟩
  · exact .inr (.inl ⟨by decide +kernel, by decide, ⟨797, flat (-3)⟩, by decide +kernel,
      by decide +kernel⟩)
  · exact .inr (.inr ⟨by decide +kernel, .inl (by decide), by decide +kernel⟩)

theorem test_clipped_block_lowers_limiter :
    ((after .mixRequestSet mixing).program 31).limiterGain = 960 := by decide +kernel

theorem witness_limiter :
    (∃ v ∈ flat 32768, (v * (Program.reset.limiterGain : Int) + 512) / 1024 < -32768 ∨
        32767 < (v * (Program.reset.limiterGain : Int) + 512) / 1024) ∧
      (∃ v ∈ flat (-32769), (v * (Program.reset.limiterGain : Int) + 512) / 1024 < -32768) ∧
      ¬(∃ v ∈ flat 32767, (v * (Program.reset.limiterGain : Int) + 512) / 1024 < -32768 ∨
        32767 < (v * (Program.reset.limiterGain : Int) + 512) / 1024) ∧
      (∀ p, 256 ≤ (mixing.program p).limiterGain ∧ (mixing.program p).limiterGain ≤ 1024) ∧
      256 ≤ Program.reset.limiterGain ∧ Program.reset.limiterGain ≤ 1024 ∧
      (mixing.program 31).isOpen = true ∧ (mixing.program 31).test = false ∧
      (0 : Fin 32) ∉ [((31 : Fin 32), (11 : Fin 12))].map Prod.fst ∧
      mixing.tap ≠ some ⟨0, .audio⟩ := by
  decide +kernel

/-! A start at which each row of the scheduler's steps has a program. Program 8 has no listener; 9 and 10 have, and do
not demand; 11 waits and does not demand; 12 waits, 13 holds D3 and 14 does neither, and all three are HOLD-OPEN. -/

/-- The schedule, with this release delay, release countdowns of programs 9 and 10, and wait age of program 12. -/
def stepping (delay : Nat) (nine ten : Option Nat) (age : Nat) : State :=
  let s := { scheduled with
    programs := scheduled.programs.modify 12 (fun r => { r with holdOpen := true })
      |>.modify 13 (fun r => { r with holdOpen := true })
      |>.modify 14 (fun r => { r with holdOpen := true }) }
  let s := (s.onListeners 9 (· + 1)).onListeners 10 (· + 1)
  s.onAts fun a =>
    let a := (a.gainSlot 0 13 3).joinTail 12
    { a with
      releaseDelay := delay
      perProgram := a.perProgram.modify 9 (fun f => { f with releaseCountdown := nine })
        |>.modify 10 (fun f => { f with releaseCountdown := ten })
        |>.modify 12 (fun f => { f with waitAge := age }) }

/-- The programs that wait or join at that start, in queue order. -/
theorem witness_schedule_steps :
    let s := stepping 0 (some 1) none 200
    let queue := s.ats.waitQueue.filter s.demands ++ (List.finRange 32).filter fun p =>
      s.demands p && (s.ats.perProgram.get p).holderSlot.isNone && !s.ats.waitQueue.contains p
    queue = [12, 14] ∧ (∀ q ∈ queue, (s.program q).allCall = false) ∧
      s.ats.waitQueue.filter s.demands = [12] ∧ (s.ats.perProgram.get 12).longWaitMark = false ∧
      s.ats.longWaitLimit < min 6001 ((s.ats.perProgram.get 12).waitAge + 1) ∧
      s.Queues (.longWait 12 0 201) ∧ s.effectiveTier 12 = s.effectiveTier 14 ∧
      [(12 : Fin 32), 14].Sublist queue ∧
      ((s.schedulerStart 5).ats.perProgram.get 14).holderSlot = some 1 ∧ (0 : Fin 12) < 1 := by
  unfold State.Queues; decide +kernel

/-- A holder without listeners; holders that do not demand, with each release countdown; one that demands. -/
theorem witness_releases :
    let wanted (s : State) (p : Fin 32) : Prop := 0 < s.hrs.listeners.get p ∨ (s.program p).allCall = true ∨
      (s.program p).holdOpen = true
    let s := stepping 0 (some 1) none 200
    let u := stepping 1 (some 2) none 200
    ((s.ats.perProgram.get 8).holderSlot = some 0 ∧ ¬wanted s 8) ∧
      ((s.ats.perProgram.get 9).holderSlot = some 1 ∧ wanted s 9 ∧ s.demands 9 = false ∧
        (s.ats.perProgram.get 9).releaseCountdown = some 1) ∧
      ((s.ats.perProgram.get 10).holderSlot = some 2 ∧ wanted s 10 ∧ s.demands 10 = false ∧
        (s.ats.perProgram.get 10).releaseCountdown = none ∧ s.ats.releaseDelay = 0) ∧
      ((u.ats.perProgram.get 9).releaseCountdown = some 2 ∧ u.demands 9 = false ∧ wanted u 9) ∧
      ((u.ats.perProgram.get 10).releaseCountdown = none ∧ 0 < u.ats.releaseDelay) ∧
      ((s.ats.perProgram.get 13).holderSlot = some 3 ∧ wanted s 13 ∧ s.demands 13 = true) ∧
      ((11 : Fin 32) ∈ s.ats.waitQueue ∧ s.demands 11 = false) ∧
      ((12 : Fin 32) ∈ s.ats.waitQueue ∧ s.demands 12 = true) := by decide +kernel

theorem witness_schedule_steps_agree : (stepping 0 (some 1) none 200).ScheduleAgrees ∧
    (stepping 1 (some 2) none 200).ScheduleAgrees := by
  constructor <;> constructor <;> decide +kernel

/-- Programs 0 to 11 hold every slot, program 12 is the ALL-CALL program, and all of 0 to 13 demand. -/
def crowded : State :=
  let s := { onAir with programs := .build 32 fun p => { Program.reset with
    isOpen := p.val < 14, holdOpen := p.val < 14, tier := if p = 3 then 0 else 1, allCall := p = 12 } }
  s.onAts fun a => (List.finRange 12).foldl (fun a d => a.gainSlot 0 ⟨d.val, by omega⟩ d) a

theorem witness_preemption :
    (∀ d, ∃ p, crowded.ats.holders.get d = some p ∧ crowded.demands p = true) ∧
      (crowded.program 12).allCall = true ∧ crowded.demands 12 = true ∧
      (crowded.ats.perProgram.get 12).holderSlot = none ∧ crowded.ats.waitQueue = [] ∧
      crowded.demands 13 = true ∧ ((crowded.schedulerStart 5).ats.perProgram.get 13).holderSlot = none := by
  decide +kernel

theorem witness_preemption_agrees : crowded.ScheduleAgrees := by
  constructor <;> decide +kernel

theorem test_all_call_takes_lowest_tier :
    (crowded.schedulerStart 5).ats.holders.get 3 = some 12 := by decide +kernel

theorem witness_free_slot :
    (State.reset.schedulerStart 0).ats.holders.get 11 = none := by decide +kernel

theorem witness_retune_queue :
    let a (ids : List HandsetId) : Scheduler :=
      { Scheduler.reset with retuneQueue := ids.map fun i => ⟨i, 0⟩ }
    (a [1, 2]).retuneQueue = [⟨1, 0⟩] ++ ⟨2, 0⟩ :: [] ∧ ((a [1, 2]).retuneQueue.map RetuneOrder.id).Nodup ∧
      (3 : HandsetId) ∉ (a [1, 2, 4, 5, 6, 7, 8]).retuneQueue.map RetuneOrder.id ∧
      (a [1, 2, 4, 5, 6, 7, 8]).retuneQueue.length < 8 ∧
      (3 : HandsetId) ∉ (a [1, 2, 4, 5, 6, 7, 8, 9]).retuneQueue.map RetuneOrder.id ∧
      8 ≤ (a [1, 2, 4, 5, 6, 7, 8, 9]).retuneQueue.length := by decide +kernel

/-- Rack 4 of the worked example of spec 09, "reduction step by step". -/
def rack4 (t : TemperatureState) : State :=
  let level (b : Fin 24) : Option Nat :=
    if b = 0 then some 20 else if b = 1 then some 45 else if b = 2 then some 70
    else if b = 3 then some 88 else if b = 4 then some 97 else if b = 5 then some 100 else none
  let s := State.reset.onRack 4 fun k => { k with budget := 1500 }
  (s.onRlc fun c => { c with
    bays := c.bays.set 4 (.build 24 fun b => { Bay.reset with
      occupancy := match level b with
        | some v => .occupied (.ofNat 24 (b.val + 1)) v
        | none => .empty }) }).onChp 4 fun p => { p with temperature := t }

theorem test_reduction_normal :
    ((rack4 .normal).computePlan 4).1.rows.take 6 =
      [.fast, .normal, .normal, .normal, .trickle, .off] := by decide +kernel

theorem test_reduction_warm :
    ((rack4 .warm).computePlan 4).1.rows.take 6 =
      [.normal, .normal, .trickle, .trickle, .trickle, .off] := by decide +kernel

/-- Desired levels that fit the budget, and levels that do not. -/
theorem witness_plans :
    let desired (s : State) (r : Fin 8) : Table 24 ChargeLevel := .build 24 fun b =>
      desiredLevel (s.rack r).issueThreshold (s.bay r b)
    totalCurrent (desired State.reset 7) ≤ (State.reset.rack 7).budget ∧
      (rack4 .warm).rackBudget 4 < totalCurrent (desired (rack4 .warm) 4) ∧
      totalCurrent (desired (rack4 .normal) 4) ≤ (1550 : Nat) ∧
      1549 < totalCurrent (desired (rack4 .normal) 4) := by decide +kernel

/-! ## Rack link, issue engine and timers -/

/-- A queue of `n` waiting requests behind an exchange in flight. -/
def busyRack (n : Nat) : State :=
  (awaiting onAir ⟨0, .poll⟩).onRlc fun c => { c with queue := List.replicate n ⟨1, .release 0 0⟩ }

theorem witness_poll_timer :
    (busyRack 8).resetHeld = false ∧ (busyRack 8).rlc.pollTimer = some 100000 ∧
      (busyRack 8).rlc.inFlight = some ⟨⟨0, .poll⟩, some 20000, false⟩ ∧
      (busyRack 8).rlc.queue.length + 8 ≤ 16 ∧ 16 ≤ (busyRack 16).rlc.queue.length ∧
      onAir.rlc.inFlight = none ∧ onAir.rlc.queue = [] ∧ (∀ r', onAir.rlc.pendingCharge.get r' = none) ∧
      ((List.finRange 8).filter fun r => (onAir.rack r).present &&
        !onAir.rlc.queue.any fun x => x.rack == r && x.request == .poll) =
          0 :: [1, 2, 3, 4, 5, 6, 7] := by decide +kernel

theorem test_polls_behind_full_queue_are_skipped :
    (after .pollTimerExpiry (busyRack 16)).rlc.skippedPolls = 8 := by decide +kernel

theorem test_first_poll_starts_on_idle_line :
    (after .pollTimerExpiry State.reset).rlc.inFlight = some ⟨⟨0, .poll⟩, none, false⟩ := by decide +kernel

theorem witness_reply_timer_and_strays :
    (onAir.onRlc fun c => { c with inFlight := some ⟨⟨7, .poll⟩, none, false⟩ }).rlc.inFlight =
        some ⟨⟨7, .poll⟩, none, false⟩ ∧
      kindAllows .rack 0x94 [(7 : Byte), 0].length = true ∧
      (∀ f, onAir.rlc.inFlight = some f → (0x94 : Byte) ≠ f.exchange.request.replyKind ∨
        [(7 : Byte), 0].head? ≠ some (.ofNat 8 f.exchange.rack.val)) := by
  refine ⟨by decide +kernel, by decide, fun f h => ?_⟩
  have : onAir.rlc.inFlight = none := rfl
  rw [this] at h
  cases h

theorem test_request_sent_starts_reply_timer :
    (after (.requestSent 5)
      (onAir.onRlc fun c => { c with inFlight := some ⟨⟨7, .poll⟩, none, false⟩ })).rlc.inFlight =
        some ⟨⟨7, .poll⟩, some 20005, false⟩ := by decide +kernel

theorem test_late_reply_is_stray :
    (after (.strayReply 5 0x94 [7, 0]) State.reset).rlc.strayReplies = 1 := by decide +kernel

/-- The report of an EMPTY bay. -/
def emptyReport : List Byte := [0, 0, 0, 0, 0, 0, 0, 0, 0, 0]

theorem witness_bay_status :
    (awaiting onAir ⟨7, .poll⟩).resetHeld = false ∧ (awaiting onAir ⟨7, .poll⟩).rlc.receive = .hunt ∧
      (awaiting onAir ⟨7, .poll⟩).rlc.inFlight = some ⟨⟨7, .poll⟩, some 20000, false⟩ ∧
      ((awaiting onAir ⟨7, .poll⟩).rack 7).present = true ∧
      (∀ b, ((Table.fill 24 emptyReport).get b).length = 10) ∧
      bayReportOf emptyReport = some ⟨.empty, .receiver, .idle, .locked, .none⟩ ∧
      bayReportOf [2, 0, 0, 0, 0, 0, 0, 0, 0, 0] = none := by decide +kernel

/-- A BAY STATUS payload's reports: every bay EMPTY but bay 23. -/
def reports (rep : List Byte) : Table 24 (List Byte) := (Table.fill 24 emptyReport).set 23 rep

/-- Bay 23 of rack 7 holds `occ`, its other bays are EMPTY, and a POLL of the rack is in flight. -/
def docking (s : State) (occ : Occupancy) : State :=
  (awaiting s ⟨7, .poll⟩).onRlc fun c => { c with
    bays := c.bays.set 7 (.build 24 fun b =>
      { Bay.reset with occupancy := if b = 23 then occ else .empty }) }

theorem docking_calm (s : State) (occ : Occupancy) (rep : List Byte) (b' : Fin 24) (q : BayReport)
    (hb : b' ≠ 23) (hq : bayReportOf ((reports rep).get b') = some q) :
    (docking s occ).ReportsNoChange 7 b' q := by
  rw [reports, Table.get_set_other _ _ hb.symm, Table.get_fill] at hq
  have : bayReportOf emptyReport = some ⟨.empty, .receiver, .idle, .locked, .none⟩ := by decide
  rw [this] at hq
  cases hq
  refine ⟨by decide, Or.inl ⟨?_, rfl⟩⟩
  simp [docking, State.bay, hb]

/-- The report of a receiver with battery 80. -/
def fullReport (id : HandsetId) : List Byte := [1, 0] ++ idBytes id ++ [80, 0, 0, 0, 0]

/-- What every clause about bay 23 asks for. -/
theorem witness_docking_base :
    let s := docking onAir .empty
    s.resetHeld = false ∧ s.rlc.receive = .hunt ∧
      s.rlc.inFlight = some ⟨⟨7, .poll⟩, some 20000, false⟩ ∧ (s.rack 7).present = true ∧
      (∀ b', ((reports (fullReport 7)).get b').length = 10) ∧
      bayReportOf ((reports (fullReport 7)).get 23) =
        some ⟨.occupied 7 80, .receiver, .idle, .locked, .none⟩ ∧
      bayReportOf ((reports emptyReport).get 23) =
        some ⟨.empty, .receiver, .idle, .locked, .none⟩ ∧
      (s.rack 7).lastTakeCount = none ∧ (∀ i, s.transaction i = none) ∧
      (s.bay 7 23).reservation = none := by decide +kernel

theorem witness_dockings :
    let s := docking onAir .empty
    ((s.bay 7 23).occupancy = .empty ∧ s.hrs.autoEnrol = true ∧ (∀ e, s.entry e = none) ∧
      s.Queues (.enrolled 7 .receiver 0 7 23 80)) ∧
      ((docking onAir .unknown).bay 7 23).occupancy = .unknown ∧
      ((docking onAir .empty).onHrs fun h => { h with autoEnrol := false }).hrs.autoEnrol = false ∧
      (docking (withEntry onAir (receiver (.missing (.listener 8 2)))) .empty).entry 0 =
        some (receiver (.missing (.listener 8 2))) ∧
      (docking micOut .empty).entry 0 = some (microphone (.issued (.speaker 3 15) 100)) ∧
      (docking (withEntry onAir (receiver .loose)) .empty).entry 0 = some (receiver .loose) ∧
      (docking (withEntry onAir (receiver (.docked 6 0))) .empty).entry 0 =
        some (receiver (.docked 6 0)) := by
  unfold State.Queues; decide +kernel

theorem witness_docking_distinct (x : RosterEntry) (occ : Occupancy) :
    (docking (withEntry onAir x) occ).EntriesDistinct :=
  one_entry_distinct _ fun e y h => withEntry_unique onAir x reset_entry e y h

/-- A roster with no EMPTY entry, every handset LOOSE. -/
def crowd : State := onAir.onHrs fun h => { h with
  entries := .build 512 fun e => some ⟨.ofNat 24 (e.val + 1), .receiver, .loose, 0, false, none, none⟩ }

theorem crowd_entry (e : Fin 512) : crowd.entry e =
    some ⟨.ofNat 24 (e.val + 1), .receiver, .loose, 0, false, none, none⟩ := by
  simp [crowd, State.entry]

theorem witness_docking_full :
    (docking crowd .empty).EntriesDistinct ∧ (∀ e, (docking crowd .empty).entry e ≠ none) ∧
      ∀ e x, (docking crowd .empty).entry e = some x → x.id ≠ (0x7FFFFF : HandsetId) := by
  have h (e : Fin 512) : (docking crowd .empty).entry e =
      some ⟨.ofNat 24 (e.val + 1), .receiver, .loose, 0, false, none, none⟩ := crowd_entry e
  refine ⟨⟨fun e e' x x' hx hx' hid => ?_, fun e e' x x' r b hx hx' hs _ => ?_⟩, fun e => ?_,
    fun e x hx => ?_⟩
  · rw [h] at hx hx'
    cases hx
    cases hx'
    have h1 := congrArg BitVec.toNat hid
    have := e.isLt
    have := e'.isLt
    simp at h1
    omega
  · rw [h] at hx
    cases hx
    cases hs
  · rw [h]; simp
  · rw [h] at hx
    cases hx
    intro hc
    have h1 := congrArg BitVec.toNat hc
    have := e.isLt
    simp at h1
    omega

/-- Removals, a swap with a LOOSE handset in entry 1, and the same handset again. -/
theorem witness_removals :
    let s := docking (withEntry onAir (receiver (.docked 7 23))) (.occupied 7 60)
    let w := docking ((withEntry onAir (receiver (.docked 7 23))).setEntry 1
      (some (microphone .loose))) (.occupied 7 60)
    ((s.bay 7 23).occupancy = .occupied 7 60 ∧ s.entry 0 = some (receiver (.docked 7 23)) ∧
      s.Queues (.unissuedRemoval 7 .receiver 0 7 23 50)) ∧
      (docking (withEntry onAir (receiver .loose)) (.occupied 7 60)).entry 0 =
        some (receiver .loose) ∧
      ((docking (withEntry onAir (receiver (.docked 7 23))) .unknown).bay 7 23).occupancy = .unknown ∧
      ((w.bay 7 23).occupancy = .occupied 7 60 ∧ w.entry 0 = some (receiver (.docked 7 23)) ∧
        w.entry 1 = some (microphone .loose) ∧ w.sli.notices.length < 15 ∧
        bayReportOf ((reports [1, 1, 0, 0, 9, 80, 0, 0, 0, 0]).get 23) =
          some ⟨.occupied 9 80, .mic, .idle, .locked, .none⟩ ∧
        w.Queues (.unissuedRemoval 7 .receiver 0 7 23 50) ∧
        w.masked (.returned 9 .mic 1 7 23 80 .loose none) = false) := by
  unfold State.Queues; decide +kernel

theorem witness_swap_distinct :
    (docking ((withEntry onAir (receiver (.docked 7 23))).setEntry 1 (some (microphone .loose)))
      (.occupied 7 60)).EntriesDistinct := by
  have h (e : Fin 512) : (docking ((withEntry onAir (receiver (.docked 7 23))).setEntry 1
      (some (microphone .loose))) (.occupied 7 60)).entry e =
      if 1 = e then some (microphone .loose)
      else if 0 = e then some (receiver (.docked 7 23)) else none := by
    show ((onAir.hrs.entries.set 0 (some (receiver (.docked 7 23)))).set 1
      (some (microphone .loose))).get e = _
    rw [Table.get_set, Table.get_set]
    have : onAir.hrs.entries.get e = none := reset_entry e
    rw [this]
  refine ⟨fun e e' x x' hx hx' hid => ?_, fun e e' x x' r b hx hx' hs hs' => ?_⟩
  all_goals
    rw [h] at hx hx'
    split at hx <;> split at hx' <;> (try split at hx) <;> (try split at hx') <;> simp_all
  · cases hx
    cases hx'
    exact absurd hid (by decide)
  · cases hx
    cases hx'
    exact absurd hid (by decide)
  · cases hx
    cases hs
  · cases hx'
    cases hs'

/-- A handset unknown to the roster docks and is enrolled (R140). -/
theorem test_docking_enrolls :
    ((after (.bayStatus 5 ([7, 21, 0] ++ (Table.fill 24 emptyReport).rows.tail.flatten ++
      [1, 0, 0, 0, 7, 80, 1, 0, 0, 0]))
      ((awaiting onAir ⟨7, .poll⟩).onRlc fun c =>
        { c with bays := c.bays.map (Table.map fun b => { b with occupancy := .empty }) })).entry 0) =
      some ⟨7, .receiver, .docked 7 23, 80, false, none, none⟩ := by decide +kernel

theorem test_bay_status_brings_rack_online :
    ((after (.bayStatus 5 ([7, 21, 0] ++ (Table.fill 24 emptyReport).rows.flatten))
      (awaiting onAir ⟨7, .poll⟩)).rack 7).link = .online := by decide +kernel

/-- A CHARGE of rack 7 is in flight. -/
def charging : State := awaiting onAir ⟨7, .charge allOff⟩

theorem witness_charge_ack :
    charging.rlc.inFlight = some ⟨⟨7, .charge allOff⟩, some 20000, false⟩ ∧ charging.rlc.receive = .hunt ∧
      (charging.rack 7).present = true ∧ (List.replicate 24 (1 : Byte)).length = 24 ∧
      ackLevelsOf (placeBytes (7 : Fin 8) ++ List.replicate 24 1) ≠ some (charging.chp.get 7).plan ∧
      ackLevelsOf (placeBytes (7 : Fin 8) ++ List.replicate 24 0) = some (charging.chp.get 7).plan ∧
      (charging.chp.get 7).lastAsked = none := by decide +kernel

theorem test_bad_level_makes_ack_unknown :
    ((after (.chargeAck 5 ([7] ++ List.replicate 24 4)) charging).chp.get 7).badAcks = 1 := by
  decide +kernel

/-- A transaction on rack 7, bay 23, for the receiver with ID 7. -/
def running (st : TransactionState) (due : Time) : Transaction :=
  { state := st, origin := .order 0x2A, rack := 7, bay := 23, id := 7, work := .listener 8 2
    imageTag := 5, image := ⟨7, .receiver, 5, 2, some 8, none, 85, []⟩, retry := none
    timer := some due, releaseAsked := false }

/-- The transaction at place 3, and its exchange in flight. -/
def issuing (st : TransactionState) (due : Time) (q : RackRequest) : State :=
  (((awaiting onAir ⟨7, q⟩).setTransaction 3 (some (running st due))).onBay 7 23 fun b =>
    { b with reservation := some 3 }).onIse fun e => { e with marks := e.marks.set 7 true }

theorem issuing_apart (st : TransactionState) (due : Time) (q : RackRequest) :
    (issuing st due q).ise.Apart := by
  intro i j x y hx hy _
  have h (k : Fin 4) : (issuing st due q).ise.transactions.get k =
      if 3 = k then some (running st due) else none := by
    show ((Table.fill 4 (none : Option Transaction)).set 3 (some (running st due))).get k = _
    simp [Table.get_set]
  rw [h] at hx hy
  split at hx
  · next hi =>
    split at hy
    · next hj => rw [← hi, ← hj]
    · cases hy
  · cases hx

theorem issuing_sound (st : TransactionState) (due : Time) (q : RackRequest) :
    (issuing st due q).rlc.Sound := by
  constructor
  · show ([] : List Exchange).length ≤ 16
    decide
  · intro _; rfl
  · intro r h
    have : (issuing st due q).rlc.pendingCharge.get r = none := by
      show (Table.fill 8 (none : Option (Table 24 ChargeLevel))).get r = none
      simp
    rw [this] at h
    cases h
  · intro r
    have : (issuing st due q).rlc.racks.get r = .reset := by
      show (Table.fill 8 Rack.reset).get r = _
      simp
    rw [this]
    decide

/-- A CHARGE of the rack is in flight beside a transaction in RELEASING whose RELEASE is not asked yet. -/
def releasing : State := (issuing .releasing 9 (.charge allOff)).setMark 7 false

theorem witness_charge_ack_releases :
    releasing.rlc.inFlight = some ⟨⟨7, .charge allOff⟩, some 20000, false⟩ ∧
      releasing.transaction 3 = some (running .releasing 9) ∧ (running .releasing 9).rack = 7 ∧
      (running .releasing 9).releaseAsked = false ∧ releasing.ise.marks.get 7 = false ∧
      (∃ l, ackLevelsOf (placeBytes (7 : Fin 8) ++ List.replicate 24 0) = some l ∧
        l.get 23 = .off) ∧
      (ackLevelsOf (placeBytes (7 : Fin 8) ++ List.replicate 24 1)).map (fun l => l.get 23) =
        some .trickle ∧
      (releasing.setMark 7 true).ise.marks.get 7 = true ∧ releasing.rlc.queue.length < 16 :=
  ⟨by decide +kernel, by decide +kernel, by decide +kernel, by decide +kernel, by decide +kernel,
    ⟨allOff, by decide +kernel, by decide +kernel⟩, by decide +kernel, by decide +kernel,
    by decide +kernel⟩

theorem releasing_apart : releasing.ise.Apart := issuing_apart .releasing 9 (.charge allOff)

theorem releasing_sound : releasing.rlc.Sound := issuing_sound .releasing 9 (.charge allOff)

/-- The receiver or microphone of entry 0 rests in bay 23 of rack 7, the subject of transaction 3. -/
def taking (x : RosterEntry) (y : Transaction) : State :=
  ((docking (withEntry (openProgram onAir) x) (.occupied x.id 60)).setTransaction 3 (some y)).onBay 7 23
    fun b => { b with reservation := some 3 }

/-- A transaction on rack 7, bay 23, for the microphone with ID 9, in U15. -/
def runningMic (st : TransactionState) : Transaction :=
  { running st 9 with id := 9, work := .speaker 3 15 }

theorem taking_apart (x : RosterEntry) (y : Transaction) : (taking x y).ise.Apart := by
  intro i j a b ha hb _
  have h (k : Fin 4) : (taking x y).ise.transactions.get k = if 3 = k then some y else none := by
    show ((Table.fill 4 (none : Option Transaction)).set 3 (some y)).get k = _
    simp [Table.get_set]
  rw [h] at ha hb
  split at ha
  · next hi =>
    split at hb
    · next hj => rw [← hi, ← hj]
    · cases hb
  · cases ha

theorem taking_distinct (x : RosterEntry) (y : Transaction) : (taking x y).EntriesDistinct :=
  one_entry_distinct _ fun e z h => withEntry_unique (openProgram onAir) x reset_entry e z h

theorem taking_calm (x : RosterEntry) (y : Transaction) (rep : List Byte) (b' : Fin 24) (q : BayReport)
    (hb : b' ≠ 23) (hq : bayReportOf ((reports rep).get b') = some q) :
    (taking x y).ReportsNoChange 7 b' q := by
  have h := docking_calm (withEntry (openProgram onAir) x) (.occupied x.id 60) rep b' q hb hq
  have e : (taking x y).bay 7 b' =
      (docking (withEntry (openProgram onAir) x) (.occupied x.id 60)).bay 7 b' := by
    simp [taking, State.bay, State.onBay, State.onRlc, State.setTransaction, State.onIse,
      hb.symm]
  rw [State.ReportsNoChange, e]
  exact h

theorem witness_takes :
    let x := receiver (.docked 7 23)
    let m := microphone (.docked 7 23)
    let s := taking x (running .takeWait 9)
    let u := (taking m (runningMic .imaging)).setSlot 15 (.reserved 3)
    (s.resetHeld = false ∧ s.rlc.receive = .hunt ∧
      s.rlc.inFlight = some ⟨⟨7, .poll⟩, some 20000, false⟩ ∧ (s.rack 7).present = true) ∧
      (s.transaction 3 = some (running .takeWait 9) ∧ (s.bay 7 23).reservation = some 3 ∧
        (s.bay 7 23).occupancy = .occupied x.id 60 ∧ s.entry 0 = some x ∧
        s.ise.latches.get 7 = false ∧ (s.rack 7).lastTakeCount = none ∧ (s.program 8).isOpen = true ∧
        s.Queues (.issueResult .taken (.order 0x2A) 3 5 7 .receiver 7 23 (some .issued)
          (some (.listener 8 2)))) ∧
      ((s.onProgram 8 fun r => { r with isOpen := false }).program 8).isOpen = false ∧
      (taking m (runningMic .takeWait)).transaction 3 = some (runningMic .takeWait) ∧
      (u.transaction 3 = some (runningMic .imaging) ∧ u.hrs.slots.get 15 = .reserved 3 ∧
        u.entry 0 = some m ∧
        u.Queues (.issueResult .handsetLost (.order 0x2A) 3 5 9 .mic 7 23 none none)) := by
  unfold State.Queues; decide +kernel

/-- The report that the subject of transaction 3 rests in bay 23, with this image state and tag. -/
def restingReport (id : HandsetId) (image tag : Byte) : List Byte :=
  [1, 0] ++ idBytes id ++ [80, 0, 0, image, tag]

/-- With it, no bay of the rack shows a change. -/
theorem taking_rests (y : Transaction) (image : Byte) (hi : image ∈ [0, 1, 2, 3]) (b' : Fin 24)
    (q : BayReport) (hq : bayReportOf ((reports (restingReport 7 image 5)).get b') = some q) :
    (taking (receiver (.docked 7 23)) y).ReportsNoChange 7 b' q := by
  by_cases hb : b' = 23
  · subst hb
    have ho : ((taking (receiver (.docked 7 23)) y).bay 7 23).occupancy = .occupied 7 60 := by
      simp [taking, docking, State.bay, State.onBay, State.onRlc, State.setTransaction, State.onIse,
        receiver]
    have hp : ∀ image ∈ [(0 : Byte), 1, 2, 3],
        (bayReportOf ((reports (restingReport 7 image 5)).get 23)).map
          (fun p => (p.charger, p.occupancy)) = some (.idle, .occupied 7 80) := by decide +kernel
    have h := hp image hi
    rw [hq] at h
    simp only [Option.map_some, Option.some.injEq, Prod.mk.injEq] at h
    exact ⟨by rw [h.1]; decide, Or.inr ⟨7, 60, 80, ho, h.2⟩⟩
  · exact taking_calm _ y _ b' q hb hq

theorem taking_sound (x : RosterEntry) (y : Transaction) : (taking x y).rlc.Sound := by
  constructor
  · show ([] : List Exchange).length ≤ 16
    decide
  · intro _; rfl
  · intro r h
    have : (taking x y).rlc.pendingCharge.get r = none := by
      show (Table.fill 8 (none : Option (Table 24 ChargeLevel))).get r = none
      simp
    rw [this] at h
    cases h
  · intro r
    have : (taking x y).rlc.racks.get r = .reset := by
      show (Table.fill 8 Rack.reset).get r = _
      simp
    rw [this]
    decide

/-- The image states of a transaction on the rack, its retries, and the acknowledged plan at OFF or unknown. -/
theorem witness_image_states :
    let s := taking (receiver (.docked 7 23)) (running .imaging 9)
    let image (state tag : Byte) : Option ImageState :=
      (bayReportOf ((reports (restingReport 7 state tag)).get 23)).map BayReport.image
    let off := s.onChp 7 fun p => { p with acknowledged := some allOff }
    (s.transaction 3 = some (running .imaging 9) ∧ (running .imaging 9).rack = 7 ∧
      (running .imaging 9).bay = 23 ∧ (s.rack 7).lastTakeCount = none ∧ s.ise.latches.get 7 = false ∧
      s.ise.marks.get 7 = false ∧ (s.setMark 7 true).ise.marks.get 7 = true) ∧
      (image 2 5 = some (.done 5) ∧ image 3 5 = some (.failed 5) ∧ image 1 5 = some (.writing 5) ∧
        image 2 6 = some (.done 6) ∧ image 3 6 = some (.failed 6) ∧
        (running .imaging 9).imageTag = 5) ∧
      ((off.chp.get 7).acknowledged = some allOff ∧ allOff.get 23 = .off ∧
        (s.chp.get 7).acknowledged = none) ∧
      ((running .imaging 9).releaseAsked = false ∧ (running .imaging 9).retry = none ∧
        { running .imaging 9 with retry := some .image }.retry = some .image ∧
        { running .releasing 9 with retry := some .release, releaseAsked := true }.retry =
          some .release) ∧
      (s.sli.notices.length < 15 ∧ s.sli.noticesLostDue = false ∧ s.rlc.queue.length < 15 ∧
        s.masked (.issueResult .imageFailed (.order 0x2A) 3 5 7 .receiver 7 23 none none) = false) := by
  decide +kernel

/-- Rack 7 with last take count 255, its bays EMPTY; the reply brings take count 0. -/
def pressed (s : State) : State :=
  (docking s .empty).onRack 7 fun k => { k with lastTakeCount := some 255 }

theorem witness_presses :
    let linked := pressed (onAir.onSli fun l => { l with link := .linked, silenceTimer := some 9 })
    let alone := pressed onAir
    let night := (pressed State.reset).onChp 7 fun p => { p with temperature := .hot }
    let waiting := pressed (onAir.setTakeRequest 7 (some 9))
    let issuing := pressed (onAir.setTransaction 3 (some (running .takeWait 9)))
    (linked.now ≤ 5 ∧ (linked.rack 7).lastTakeCount = some 255 ∧ (255 : Byte) ≠ 0 ∧
      ((0 : Byte).toNat + 256 - (255 : Byte).toNat) % 256 = 1 ∧ linked.sli.mode = .day ∧
      linked.sli.link = .linked ∧ linked.ise.takeRequests.get 7 = none ∧
      (∀ i, linked.transaction i = none) ∧ linked.sli.notices.length < 15 ∧
      linked.sli.noticesLostDue = false) ∧
      (night.sli.mode = .night ∧ (night.chp.get 7).temperature = .hot ∧
        night.Queues (.takeDropped 7 (some 1) .night)) ∧
      (waiting.ise.takeRequests.get 7 ≠ none ∧ waiting.sli.mode = .day) ∧
      (issuing.transaction 3 = some (running .takeWait 9) ∧ issuing.sli.mode = .day ∧
        issuing.ise.takeRequests.get 7 = none ∧
        (issuing.setTakeRequest 7 (some 9)).ise.takeRequests.get 7 ≠ none) ∧
      (alone.sli.link = .standalone ∧ (alone.rack 7).defaultProgram = none ∧
        alone.masked (.takeDropped 7 none .noDefault) = false) := by
  unfold State.Queues; decide +kernel

/-- No bay of these racks shows a change. -/
theorem witness_presses_calm (s : State) (b' : Fin 24) (q : BayReport)
    (hq : bayReportOf ((reports emptyReport).get b') = some q) : (pressed s).ReportsNoChange 7 b' q := by
  have e : reports emptyReport = .fill 24 emptyReport := by decide +kernel
  rw [e, Table.get_fill] at hq
  have : bayReportOf emptyReport = some ⟨.empty, .receiver, .idle, .locked, .none⟩ := by decide
  rw [this] at hq
  cases hq
  refine ⟨by decide, Or.inl ⟨?_, rfl⟩⟩
  simp [pressed, docking, State.bay, State.onRack]

/-- A handset docks elsewhere while it is the subject of a transaction on another rack. -/
theorem witness_docking_elsewhere :
    let s := (docking (withEntry onAir (receiver (.docked 6 0))) .empty).setTransaction 3
      (some { running .imaging 9 with rack := 6, bay := 0 })
    s.transaction 3 = some { running .imaging 9 with rack := 6, bay := 0 } ∧
      (running .imaging 9).id = (receiver (.docked 6 0)).id ∧ s.ise.latches.get 6 = false ∧
      (∀ j, j ≠ 3 → s.transaction j = none) ∧
      s.Queues (.issueResult .handsetLost (.order 0x2A) 3 5 7 .receiver 6 0 none none) := by
  unfold State.Queues; decide +kernel

/-- What the clauses ask of the roster and the transactions holds of those states too. -/
theorem witness_takes_rosters :
    let u := (taking (microphone (.docked 7 23)) (runningMic .imaging)).setSlot 15 (.reserved 3)
    let v := (docking onAir .empty).onHrs fun h => { h with autoEnrol := false }
    let w := (docking (withEntry onAir (receiver (.docked 6 0))) .empty).setTransaction 3
      (some { running .imaging 9 with rack := 6, bay := 0 })
    (u.EntriesDistinct ∧ u.ise.Apart) ∧ v.EntriesDistinct ∧ w.EntriesDistinct ∧
      (docking onAir .unknown).EntriesDistinct ∧ (docking micOut .empty).EntriesDistinct :=
  ⟨⟨one_entry_distinct _ fun e z h => withEntry_unique (openProgram onAir) _ reset_entry e z h,
      taking_apart _ _⟩,
    one_entry_distinct _ fun e _ h => (nomatch (reset_entry e).symm.trans h),
    one_entry_distinct _ fun e z h => withEntry_unique onAir _ reset_entry e z h,
    one_entry_distinct _ fun e _ h => (nomatch (reset_entry e).symm.trans h),
    one_entry_distinct _ fun e z h => withEntry_unique onAir _ reset_entry e z h⟩

theorem witness_acks :
    let s := issuing .imaging 9 (.image 23 (running .imaging 9).image)
    let u := issuing .releasing 9 (.release 23 5)
    (s.resetHeld = false ∧ s.now ≤ 5 ∧ s.rlc.receive = .hunt ∧
      s.transaction 3 = some (running .imaging 9) ∧ (s.rack 7).present = true ∧
      s.rlc.queue.length < 16 ∧
      s.rlc.inFlight = some ⟨⟨7, .image 23 (running .imaging 9).image⟩, some 20000, false⟩ ∧
      (running .imaging 9).image.tag = (running .imaging 9).imageTag) ∧
    u.transaction 3 = some (running .releasing 9) ∧
      u.rlc.inFlight = some ⟨⟨7, .release 23 5⟩, some 20000, false⟩ := by decide +kernel

theorem test_release_ack_brings_take_wait :
    ((after (.releaseAck 5 [7, 23]) (issuing .releasing 9 (.release 23 5))).transaction 3).map
      (fun x => (x.state, x.timer)) = some (.takeWait, some 30000005) := by decide +kernel

theorem test_image_ack_of_another_tag_sets_retry :
    ((after (.imageAck 5 [7, 23, 6])
      (issuing .imaging 9 (.image 23 (running .imaging 9).image))).transaction 3).map
        Transaction.retry = some (some .image) := by decide +kernel

/-- A POLL of rack 7 is in flight after `n` misses. -/
def missing (n : Nat) : State :=
  (awaiting onAir ⟨7, .poll⟩).onRack 7 fun k => { k with missCount := n, link := .online }

theorem witness_reply_timeouts :
    (missing 1).resetHeld = false ∧
      (missing 1).rlc.inFlight = some ⟨⟨7, .poll⟩, some 20000, false⟩ ∧ (missing 1).now ≤ 20000 ∧
      ((missing 1).rack 7).present = true ∧ ((missing 1).rack 7).missCount ≤ 1 ∧
      ((missing 2).rack 7).missCount = 2 ∧ ((missing 2).rack 7).link ≠ .offline := by
  decide +kernel

theorem witness_third_miss_apart : (missing 2).ise.Apart := witness_transactions_apart

/-- The timeout of a CHARGE, an IMAGE and a RELEASE: of a rack ONLINE or not, of a plan that is wanted or not, of a
transaction that still waits for it or not. Each request can bring the third miss. -/
theorem witness_request_timeouts :
    let online (s : State) : State := s.onRack 7 fun k => { k with link := .online }
    let known := charging.onChp 7 fun p => { p with acknowledged := some p.plan }
    let i := issuing .imaging 9 (.image 23 (running .imaging 9).image)
    let u := issuing .releasing 9 (.release 23 5)
    let wants (s : State) : Prop := (s.chp.get 7).acknowledged ≠ some (s.chp.get 7).plan ∨
      ((s.chp.get 7).lastAsked ≠ none ∧ (s.chp.get 7).lastAsked ≠ some (s.chp.get 7).plan)
    ((online charging).rlc.inFlight = some ⟨⟨7, .charge allOff⟩, some 20000, false⟩ ∧
      ((online charging).rack 7).link = .online ∧ ((online charging).rack 7).missCount ≤ 1 ∧
      wants (online charging) ∧ ¬wants known ∧ (charging.rack 7).link ≠ .online) ∧
      (i.rlc.inFlight = some ⟨⟨7, .image 23 (running .imaging 9).image⟩, some 20000, false⟩ ∧
        i.transaction 3 = some (running .imaging 9) ∧ (running .imaging 9).rack = 7 ∧
        (running .imaging 9).imageTag = (running .imaging 9).image.tag ∧
        (i.setTransaction 3 none).transaction 3 = none) ∧
      (u.rlc.inFlight = some ⟨⟨7, .release 23 5⟩, some 20000, false⟩ ∧
        u.transaction 3 = some (running .releasing 9) ∧ (running .releasing 9).imageTag = 5 ∧
        (u.rack 7).link ≠ .online ∧ ((online u).rack 7).link = .online ∧
        (online u).rlc.queue.length < 16 ∧ (running .takeWait 9).state ≠ .releasing) ∧
      (((online u).onRack 7 fun k => { k with missCount := 2 }).rack 7).missCount = 2 := by
  decide +kernel

theorem witness_request_timeouts_apart :
    ((issuing .releasing 9 (.release 23 5)).onRack 7 fun k => { k with link := .online }).ise.Apart :=
  issuing_apart .releasing 9 (.release 23 5)

theorem witness_request_timeouts_sound :
    ((issuing .releasing 9 (.release 23 5)).onRack 7 fun k => { k with link := .online }).rlc.Sound := by
  have h := issuing_sound .releasing 9 (.release 23 5)
  refine ⟨h.limit, h.idle, h.pending, fun r => ?_⟩
  simp only [State.onRack, State.onRlc, Table.get_modify]
  split
  · exact h.misses _
  · exact h.misses r

theorem test_third_miss_raises_rack_offline :
    (after .replyTimeout (missing 2)).sli.transmitting = some (.notice ⟨0, .rackOffline 7⟩) := by
  decide +kernel

theorem test_second_miss_keeps_rack_online :
    ((after .replyTimeout (missing 1)).rack 7).link = .online := by decide +kernel

/-- The POLL of rack 7 in flight has outlived its rack's service (R124). -/
def leftBehind : State :=
  onAir.onRlc fun c => { c with inFlight := some ⟨⟨7, .poll⟩, some 20000, true⟩ }

theorem witness_left_service :
    leftBehind.resetHeld = false ∧ leftBehind.rlc.receive = .hunt ∧ leftBehind.now ≤ 5 ∧
      leftBehind.rlc.inFlight = some ⟨⟨7, .poll⟩, some 20000, true⟩ ∧ leftBehind.now ≤ 20000 ∧
      ((Table.fill 24 emptyReport).rows.flatten ++ [21, 0]).length = 242 := by decide +kernel

theorem witness_transaction_ends :
    let s := issuing .imaging 9 .poll
    let u := issuing .takeWait 9 .poll
    s.resetHeld = false ∧ s.transaction 3 = some (running .imaging 9) ∧
      s.ise.latches.get (running .imaging 9).rack = false ∧ s.now ≤ 9 ∧
      (running .imaging 9).timer = some 9 ∧ u.transaction 3 = some (running .takeWait 9) ∧
      (running .takeWait 9).timer = some 9 ∧
      s.Queues (.issueResult .imageFailed (.order 0x2A) 3 5 7 .receiver 7 23 none none) := by
  unfold State.Queues; decide +kernel

theorem witness_cancel : (issuing .imaging 9 .poll).TakesOrders ∧ (issuing .imaging 9 .poll).ise.Apart :=
  ⟨by unfold State.TakesOrders; decide +kernel, issuing_apart _ _ _⟩

theorem test_imaging_timer_ends_transaction :
    (after (.imagingTimerExpiry 3) (issuing .imaging 9 .poll)).sli.transmitting =
      some (.notice ⟨0, .issueResult .imageFailed (.order 0x2A) 3 5 7 .receiver 7 23 none none⟩) := by
  decide +kernel

theorem test_take_wait_timer_clears_reservation :
    ((after (.takeWaitTimerExpiry 3) (issuing .takeWait 9 .poll)).bay 7 23).reservation = none := by
  decide +kernel

theorem test_cancel_is_answered_with_place :
    (after (.cancel 5 0x2A [7]) (issuing .imaging 9 .poll)).sli.transmitting =
      some (.answer ⟨0x2A, .done, [3]⟩) := by decide +kernel

theorem test_take_wait_is_not_cancelled :
    (after (.cancel 5 0x2A [7]) (issuing .takeWait 9 .poll)).sli.transmitting =
      some (.answer ⟨0x2A, .refused, []⟩) := by decide +kernel

/-- A take request of rack 7 is pending on a LINKED site link. -/
def requested : State :=
  (onAir.onSli fun l => { l with link := .linked, silenceTimer := some 9 }).setTakeRequest 7 (some 9)

theorem witness_reaction_timer :
    requested.resetHeld = false ∧ requested.ise.takeRequests.get 7 = some 9 ∧ requested.now ≤ 9 ∧
      requested.masked (.takeDropped 7 none .noDefault) = false ∧ requested.sli.notices.length < 16 ∧
      (requested.rack 7).defaultProgram = none ∧
      ((requested.onRack 7 fun k => { k with defaultProgram := some 8 }).rack 7).defaultProgram = some 8 ∧
      (requested.program 8).isOpen = false := by decide +kernel

theorem witness_silence_timer :
    (onAir.onSli fun l => { l with link := .linked, silenceTimer := some 9 }).sli.silenceTimer =
        some 9 ∧ (∀ r, onAir.ise.takeRequests.get r = none) := by decide +kernel

/-- The take request of rack 7, whose default is program 8; a handset rests in its bay 23. -/
def defaulting (kind : HandsetKind) (x : RosterEntry) : State :=
  (((docking (withEntry (openProgram onAir) x) (.occupied x.id 60)).setTakeRequest 7 (some 9)).onRack 7
    fun k => { k with defaultProgram := some 8, defaultKind := kind, link := .online })

theorem defaulting_entry (kind : HandsetKind) (x : RosterEntry) (e : Fin 512) :
    (defaulting kind x).entry e = if 0 = e then some x else none := by
  rw [show (defaulting kind x).entry e = (withEntry (openProgram onAir) x).entry e from rfl,
    withEntry_get]
  rw [show (openProgram onAir).entry e = none from reset_entry e]

theorem defaulting_distinct (kind : HandsetKind) (x : RosterEntry) : (defaulting kind x).EntriesDistinct :=
  one_entry_distinct _ fun e z h => withEntry_unique (openProgram onAir) x reset_entry e z h

/-- A receiver or a microphone at the issue threshold is a candidate. -/
theorem witness_candidate :
    (defaulting .receiver (receiver (.docked 7 23))).Candidate 7 .receiver 23 ∧
      (defaulting .mic (microphone (.docked 7 23))).Candidate 7 .mic 23 :=
  ⟨⟨0, receiver (.docked 7 23), 60, by decide +kernel, rfl, rfl, by decide +kernel, by decide +kernel,
      by decide +kernel, by decide +kernel, by decide +kernel⟩,
    ⟨0, microphone (.docked 7 23), 60, by decide +kernel, rfl, rfl, by decide +kernel,
      by decide +kernel, by decide +kernel, by decide +kernel, by decide +kernel⟩⟩

/-- It is the only one. -/
theorem witness_best_candidate (kind : HandsetKind) (x : RosterEntry) (hx : x.state = .docked 7 23)
    (k : HandsetKind) (b' : Fin 24) (h : (defaulting kind x).Candidate 7 k b') : b' = 23 := by
  obtain ⟨e, y, _, he, hs, _⟩ := h
  rw [defaulting_entry] at he
  split at he
  · cases he
    rw [hx] at hs
    cases hs
    rfl
  · cases he

/-- Beside a receiver, no microphone is a candidate. -/
theorem witness_no_candidate (b : Fin 24) :
    ¬(defaulting .mic (receiver (.docked 7 23))).Candidate 7 .mic b := by
  rintro ⟨e, y, _, he, _, hk, _⟩
  rw [defaulting_entry] at he
  split at he
  · cases he
    cases hk
  · cases he

theorem witness_default_issues :
    let s := defaulting .receiver (receiver (.docked 7 23))
    let m := defaulting .mic (microphone (.docked 7 23))
    let full := m.onHrs fun h => { h with slots := .fill 16 (.reserved 0) }
    let busy := s.setTransaction 3 (some (running .takeWait 9))
    let four := s.onIse fun e => { e with
      transactions := .build 4 fun i => some { running .takeWait 9 with rack := ⟨i.val, by omega⟩ } }
    (s.resetHeld = false ∧ s.ise.takeRequests.get 7 = some 9 ∧ s.now ≤ 9 ∧
      (s.rack 7).defaultProgram = some 8 ∧ (s.program 8).isOpen = true ∧
      (s.rack 7).defaultKind = .receiver ∧ (∀ i, s.transaction i = none) ∧
      s.ise.marks.get 7 = false ∧ s.Queues (.takeDefaulted 7 0 (.listener 8 2) 23 7)) ∧
      ((m.rack 7).defaultKind = .mic ∧ m.hrs.slots.get 0 = .free ∧
        (∀ k' : Fin 16, k' < 0 → m.hrs.slots.get k' ≠ .free)) ∧
      (∀ k, full.hrs.slots.get k ≠ .free) ∧
      (busy.transaction 3 = some (running .takeWait 9) ∧
        (s.setMark 7 true).ise.marks.get 7 = true ∧ ∀ i, four.transaction i ≠ none) ∧
      s.masked (.takeDropped 7 none .busy) = false ∧ s.sli.notices.length < 16 := by
  unfold State.Queues; decide +kernel

theorem witness_silence_with_request :
    requested.sli.silenceTimer = some 9 ∧ requested.ise.takeRequests.get 7 = some 9 ∧
      (∀ r', r' ≠ 7 → requested.ise.takeRequests.get r' = none) ∧ requested.now ≤ 9 := by
  decide +kernel

theorem test_reaction_without_default_drops :
    (after (.reactionTimerExpiry 7) requested).sli.transmitting =
      some (.notice ⟨0, .takeDropped 7 none .noDefault⟩) := by decide +kernel

theorem test_silence_brings_standalone :
    (after .silenceTimerExpiry requested).sli.link = .standalone := by decide +kernel

/-! ## Orders -/

theorem witness_takes_orders :
    onAir.TakesOrders ∧ State.reset.TakesOrders ∧ (openProgram onAir).TakesOrders := by
  unfold State.TakesOrders; decide +kernel

theorem witness_refused_order :
    (orderOf 0x05 0 [32] onAir).code = .noEntry ∧ (List.replicate 338 (0 : Byte)).length ≤ 338 ∧
      0x17 < (0x18 : Byte).toNat ∧
      16 ≤ (onAir.onSli fun l =>
        { l with answers := List.replicate 16 ⟨0, .done, []⟩ }).sli.answers.length ∧
      (resetting onAir .full).sli.resetPending.isSome = true := by decide +kernel

theorem test_unknown_code_is_malformed :
    (after (.unknownOrderCode 5 0x2A 0x18 []) onAir).sli.transmitting =
      some (.answer ⟨0x2A, .malformed, []⟩) := by decide +kernel

theorem test_order_behind_reset_is_overrun :
    (after (.unknownOrderCode 5 0x2A 0x18 []) (resetting onAir .full)).sli.orderOverruns = 1 := by
  decide +kernel

theorem witness_set_source :
    (15 : Fin 24).val < 16 ∧ 16 ≤ (16 : Fin 24).val ∧ (onAir.source 16).enabled = false ∧
      ((streaming [] none).source 23).enabled = true ∧ (streaming [] none).TakesOrders := by
  unfold State.TakesOrders; decide +kernel

theorem test_set_source_clamps_off_threshold :
    ((after (.setSource 5 0x2A [15, 16, 0, 0, 10, 0, 11, 5, 9, 0, 0, 0, 0, 0, 0]) onAir).source
      15).offThreshold = 10 := by decide +kernel

theorem test_disabled_stream_loses_queue :
    ((after (.setSource 5 0x2A [23, 4, 0, 0, 10, 0, 10, 2, 9, 0, 0, 0, 0, 0, 0])
      (streaming [1, 2] none)).source 23).queue = [] := by decide +kernel

theorem witness_set_program :
    ((openProgram onAir).program 8).isOpen = true ∧ ((openProgram onAir).program 8).tour = 2 ∧
      (∀ q, q ≠ 8 → ((openProgram onAir).program q).allCall = false) ∧
      (∀ c ∈ [(0x20 : Byte), 0x7E, 0x41, 0x42], 0x20 ≤ c.toNat ∧ c.toNat ≤ 0x7E) := by decide +kernel

theorem witness_set_mix :
    [(⟨23, 4096, 255⟩ : MixEntry), ⟨0, 0, 0⟩, ⟨0, 0, 0⟩, ⟨0, 0, 0⟩].length ≤ 4 ∧
      (∀ e ∈ [(⟨23, 4096, 255⟩ : MixEntry), ⟨0, 0, 0⟩, ⟨0, 0, 0⟩, ⟨0, 0, 0⟩],
        e.gain < 65536 ∧ e.duckClass < 256) := by decide

theorem test_open_program_keeps_its_tour :
    (after (.setProgram 5 0x2A [8, 3, 65, 66, 67, 68, 0, 0, 0, 0, 1, 0, 32, 0, 8])
      (openProgram onAir)).sli.transmitting = some (.answer ⟨0x2A, .refused, []⟩) := by decide +kernel

theorem test_set_mix_clamps :
    ((after (.setMix 5 0x2A [8, 1, 23, 16, 0, 4]) onAir).program 8).mixList = [⟨23, 4095, 3⟩] := by
  decide +kernel

theorem test_five_mix_entries_are_malformed :
    (after (.setMix 5 0x2A ([8, 5] ++ List.replicate 20 0)) onAir).sli.transmitting =
      some (.answer ⟨0x2A, .malformed, []⟩) := by decide +kernel

theorem witness_tap :
    (8 : Byte) = .ofNat 8 (8 : Fin 32).val ∧ (openProgram onAir).sli.mode = .day ∧
      ((openProgram onAir).program 8).isOpen = true := by decide +kernel

theorem test_tap_period_is_clamped :
    (after (.tap 5 0x2A [8, 2, 0]) (openProgram onAir)).tap = some ⟨8, .levelsEvery 1⟩ := by
  decide +kernel

theorem test_tap_of_closed_program_is_refused :
    (after (.tap 5 0x2A [8, 3, 0]) onAir).tap = none := by decide +kernel

theorem test_open_sets_limiter :
    ((after (.openProgram 5 0x2A [8])
      (onAir.onProgram 8 fun r => { r with limiterGain := 256 })).program 8).limiterGain = 1024 := by
  decide +kernel

/-- Program 8 is OPEN, holds D0 and has a listener. -/
def listened : State :=
  ((withEntry (openProgram onAir) (receiver (.issued (.listener 8 2) 100))).onListeners 8 (· + 1)).onAts
    (Scheduler.gainSlot 0 8 0)

theorem witness_close :
    listened.TakesOrders ∧ (listened.program 8).isOpen = true ∧ (listened.program 9).isOpen = false ∧
      (listened.ats.perProgram.get 8).holderSlot = some 0 ∧
      listened.entry 0 = some (receiver (.issued (.listener 8 2) 100)) := by
  unfold State.TakesOrders; decide +kernel

theorem test_close_answers_counts :
    (after (.closeProgram 5 0x2A [8]) listened).sli.transmitting =
      some (.answer ⟨0x2A, .done, [0, 1, 0]⟩) := by decide +kernel

theorem test_close_recalls :
    ((after (.closeProgram 5 0x2A [8]) listened).entry 0).map RosterEntry.state = some .recalled := by
  decide +kernel

/-- DAY with recalls held for these tours. -/
def recalling (tours : List (Fin 16)) : State :=
  onAir.onTrc fun c => { c with recalls := tours.map fun t => ⟨t, .key, 9⟩ }

theorem witness_recalls :
    (recalling [1, 2]).TakesOrders ∧ (recalling [1, 2]).sli.mode = .day ∧
      (∀ o ∈ (recalling [1, 2]).trc.recalls, 0 < o.countdown) ∧
      (recalling [1, 2]).trc.recalls = [⟨1, .key, 9⟩] ++ ⟨2, .key, 9⟩ :: [] ∧
      ((recalling [1, 2]).trc.recalls.map RecallOrder.tour).Nodup ∧
      (0 : Fin 16) ∉ (recalling [1, 2, 3]).trc.recalls.map RecallOrder.tour ∧
      (recalling [1, 2, 3]).trc.recalls.length < 4 ∧
      4 ≤ (recalling [1, 2, 3, 4]).trc.recalls.length ∧
      (recalling [1, 2]).Queues (.recall 2 .order .restarted none) := by
  unfold State.TakesOrders State.Queues; decide +kernel

theorem test_fifth_recall_is_busy :
    (after (.recall 5 0x2A [0]) (recalling [1, 2, 3, 4])).sli.transmitting =
      some (.answer ⟨0x2A, .busy, []⟩) := by decide +kernel

theorem test_recall_restarts :
    (after (.recall 5 0x2A [2]) (recalling [1, 2])).trc.recalls = [⟨1, .key, 9⟩, ⟨2, .order, 50⟩] := by
  decide +kernel

/-- Each row of the key recognizer at the counts where it begins or ends: an idle key, a window that is up, a press
of 49 and 50, of 19 and 20, and a gap of 9 and 10. -/
theorem witness_key_rows :
    let r (st : RecognizerState) (key : KeyState) (d p g w : Nat) : Recognizer := ⟨st, key, d, p, g, w⟩
    ((r .idle .up 2 0 0 0).disagreement ≤ 2 ∧ KeyState.down ≠ (r .idle .up 2 0 0 0).key) ∧
      (r .gap .up 0 0 1 150).window = 150 ∧ 150 ≤ (r .press1 .down 0 20 0 150).window ∧
      (r .press1 .down 0 49 0 149).window < 150 ∧ (r .press1 .down 0 49 0 149).press < 50 ∧
      50 ≤ (r .press1 .down 0 50 0 149).press ∧ 20 ≤ (r .press1 .down 2 20 0 21).press ∧
      (r .press1 .down 2 19 0 21).press < 20 ∧ 10 ≤ (r .gap .up 2 0 10 40).gapCount ∧
      (r .gap .up 2 0 9 40).gapCount < 10 ∧ 20 ≤ (r .press2 .down 2 20 0 80).press ∧
      (r .holdoff .down 2 0 0 0).key = .down := by decide +kernel

/-- The microphone bound to U15, its recognizer about to see the second press end, with recalls held for these
tours. -/
def keying (tours : List (Fin 16)) : State :=
  micOut.onTrc fun c =>
    { c with
      recognizers := c.recognizers.set 15 ⟨.press2, .down, 2, 20, 0, 80⟩
      recalls := tours.map fun t => ⟨t, .key, 9⟩ }

theorem witness_key_arrivals :
    let s := keying [3, 4]
    (s.resetHeld = false ∧ s.ap.onAir = true ∧ (15 : Fin 24).val = (15 : Fin 16).val ∧
      s.ap.micMarks.get 15 ≠ some s.ap.superframe ∧ s.hrs.slots.get 15 = .bound 0 ∧
      s.entry 0 = some (microphone (.issued (.speaker 3 15) 100)) ∧
      s.hrs.slots.get 14 = .free ∧ (List.replicate 320 (0 : Byte)).length = 320 ∧
      s.sli.transmitting = none) ∧
      ((s.trc.recognizers.get 15).takeKey .up).2 = true ∧
      ((s.trc.recognizers.get 15).takeKey .down).2 = false ∧
      (∀ o ∈ s.trc.recalls, 0 < o.countdown) ∧
      (s.trc.recalls = [] ++ ⟨3, .key, 9⟩ :: [⟨4, .key, 9⟩] ∧
        (s.trc.recalls.map RecallOrder.tour).Nodup ∧ s.Queues (.recall 3 .key .restarted (some (15, 9)))) ∧
      ((3 : Fin 16) ∉ (keying [4, 5, 6]).trc.recalls.map RecallOrder.tour ∧
        (keying [4, 5, 6]).trc.recalls.length < 4) ∧
      ((3 : Fin 16) ∉ (keying [4, 5, 6, 7]).trc.recalls.map RecallOrder.tour ∧
        4 ≤ (keying [4, 5, 6, 7]).trc.recalls.length) := by
  unfold State.Queues; decide +kernel

theorem test_key_pattern_raises_recall :
    ((keying []).takeKey 15 9 3 .up).trc.recalls = [⟨3, .key, 50⟩] := by decide +kernel

theorem witness_mask :
    let lists (s : State) (m : Table 23 Bool) : List Notice :=
      let opens (k : Fin 23) : Bool := s.sli.mask.get k && !m.get k
      (if opens 18 && s.sli.syncLost then [.syncLost] else []) ++
        (if opens 19 && s.sli.airDegraded then [.airDegraded] else []) ++
        (if opens 20 then ((List.finRange 8).filter s.sli.rackOffline.get).map .rackOffline else []) ++
        (if opens 21 then ((List.finRange 8).filter s.sli.rackHot.get).map .rackHot else [])
    let masked := onAir.onSli fun l => { l with
      mask := .fill 23 true, airDegraded := true, syncLost := true
      rackHot := l.rackHot.set 7 true
      transmitting := some (.answer ⟨1, .done, []⟩)
      notices := List.replicate 14 ⟨0, .rosterFull 7 .receiver 7 23⟩ }
    onAir.TakesOrders ∧ (lists onAir (.fill 23 true) = [] ++ [] ∧
      onAir.sli.notices.length + ([] : List Notice).length ≤ 16) ∧
      masked.TakesOrders ∧
      (lists masked (.fill 23 false) = [.syncLost, .airDegraded] ++ [.rackHot 7] ∧
        masked.sli.notices.length + [Notice.syncLost, .airDegraded].length = 16) := by
  unfold State.TakesOrders; decide +kernel

/-- A notice whose kind is MASKED, one that finds the sixteenth place, and one that finds none. -/
theorem witness_notices :
    let waits (n : Nat) : State := (withEntry onAir (receiver (.issued (.listener 8 2) 0))).onSli fun l =>
      { l with notices := List.replicate n ⟨0, .rosterFull 7 .receiver 7 23⟩ }
    let masked := (waits 16).onSli fun l => { l with mask := l.mask.set 14 true }
    (masked.sli.mask.get 14 = true ∧ (waits 15).sli.mask.get 14 = false ∧
      (waits 15).sli.notices.length < 16 ∧ 16 ≤ (waits 16).sli.notices.length) ∧
      ((waits 16).resetHeld = false ∧
        (waits 16).entry 0 = some (receiver (.issued (.listener 8 2) 0)) ∧
        (receiver (.issued (.listener 8 2) 0)).state = .issued (.listener 8 2) 0) ∧
      (masked.masked (.missing 7 .receiver (.listener 8 2) 50) = true ∧
        (waits 16).masked (.missing 7 .receiver (.listener 8 2) 50) = false) := by
  decide +kernel

theorem test_set_filter_clears_validity :
    (after (.setFilter 5 0x2A [7, 1, 1, 2, 3, 0, 0, 255, 2])
      (onAir.onHrs fun h => { h with filterValid := true })).hrs.filterValid = false := by
  decide +kernel

theorem test_validate_filter : (after (.validateFilter 5 0x2A []) onAir).hrs.filterValid = true := by
  decide +kernel

theorem test_set_timing_clamps :
    (after (.setTiming 5 0x2A [1, 0, 0, 9, 0, 99, 0]) onAir).ats.longWaitLimit = 10 := by
  decide +kernel

theorem test_unmasking_sends_raised_condition :
    (after (.mask 5 0x2A (List.replicate 23 0)) (onAir.onSli fun l =>
      { l with mask := .fill 23 true, airDegraded := true })).sli.notices =
        [⟨0, .airDegraded⟩] := by decide +kernel

theorem witness_enrol :
    onAir.TakesOrders ∧ (7 : HandsetId) ≠ 0 ∧ (1 : Byte).toNat ≤ 1 ∧ 1 < (2 : Byte).toNat ∧
      (∀ e x, onAir.entry e = some x → x.id ≠ (7 : HandsetId)) ∧ onAir.entry 0 = none ∧
      (∃ e x, (withEntry onAir (receiver .loose)).entry e = some x ∧ x.id = 7) := by
  refine ⟨witness_takes_orders.1, by decide, by decide, by decide, ?_, reset_entry 0, ?_⟩
  · intro e x h
    have : onAir.entry e = none := reset_entry e
    rw [this] at h
    cases h
  · exact ⟨0, _, by rw [withEntry_get]; rfl, rfl⟩

/-- A roster with no EMPTY entry and without the ID 0x7FFFFF. -/
theorem witness_enrol_full :
    let s := onAir.onHrs fun h => { h with
      entries := .build 512 fun e => some ⟨.ofNat 24 (e.val + 1), .receiver, .loose, 0, false, none, none⟩ }
    (∀ e x, s.entry e = some x → x.id ≠ (0x7FFFFF : HandsetId)) ∧ ∀ e, s.entry e ≠ none := by
  refine ⟨fun e x h => ?_, fun e => ?_⟩
  · simp only [State.entry, State.onHrs_hrs, Table.get_build, Option.some.injEq] at h
    rw [← h]
    have := e.isLt
    intro hc
    have h2 := congrArg BitVec.toNat hc
    simp at h2
    omega
  · simp [State.entry]

theorem test_enrol_takes_lowest_empty :
    (after (.enrol 5 0x2A [0, 0, 8, 1]) (withEntry onAir (receiver .loose))).sli.transmitting =
      some (.answer ⟨0x2A, .done, [0, 1]⟩) := by decide +kernel

theorem test_enrol_of_known_id_is_refused :
    (after (.enrol 5 0x2A [0, 0, 7, 0]) (withEntry onAir (receiver .loose))).sli.transmitting =
      some (.answer ⟨0x2A, .refused, []⟩) := by decide +kernel

theorem witness_roster_orders :
    let s := withEntry (openProgram onAir) (receiver .recalled)
    let m := withEntry onAir (microphone .loose)
    let f := withEntry onAir (receiver (.docked 7 23))
    s.TakesOrders ∧ s.entry 0 = some (receiver .recalled) ∧ (s.program 8).isOpen = true ∧
      m.entry 0 = some (microphone .loose) ∧ m.hrs.slots.get 0 = .free ∧
      (∀ k' : Fin 16, k' < 0 → m.hrs.slots.get k' ≠ .free) ∧
      f.entry 0 = some (receiver (.docked 7 23)) ∧ (f.rack 7).link ≠ .online ∧
      micOut.entry 0 = some (microphone (.issued (.speaker 3 15) 100)) ∧
      listened.entry 0 = some (receiver (.issued (.listener 8 2) 100)) := by
  unfold State.TakesOrders; decide +kernel

/-- Each of those rosters holds its handset's ID once, and no transaction runs. -/
theorem witness_roster_orders_unique (x : RosterEntry) :
    (∀ e' x', (withEntry onAir x).entry e' = some x' → x'.id = x.id → e' = 0) ∧
      ∀ i y, (withEntry onAir x).transaction i = some y → y.id ≠ x.id := by
  refine ⟨fun e' x' h _ => withEntry_unique _ _ reset_entry e' x' h, fun i y h => ?_⟩
  have : (withEntry onAir x).transaction i = none := by
    show (Table.fill 4 (none : Option Transaction)).get i = none
    simp
  rw [this] at h
  cases h

theorem test_assign_queues_retune :
    (after (.assign 5 0x2A [0, 0, 7, 8])
      (withEntry (openProgram onAir) (receiver .recalled))).ats.retuneQueue = [⟨7, 8⟩] := by
  decide +kernel

theorem test_bind_any_takes_lowest_slot :
    (after (.bind 5 0x2A [0, 0, 9, 3, 0xFF]) (withEntry onAir (microphone .loose))).hrs.slots.get 0 =
      .bound 0 := by decide +kernel

theorem test_forget_unbinds_slot :
    (after (.forget 5 0x2A [0, 0, 9]) micOut).hrs.slots.get 15 = .free := by decide +kernel

theorem witness_set_rack :
    onAir.TakesOrders ∧ (onAir.rack 7).present = true ∧
      ((onAir.onRack 7 fun k => { k with present := false }).rack 7).present = false ∧
      onAir.ise.Apart := ⟨witness_takes_orders.1, by decide +kernel, by decide +kernel,
        witness_transactions_apart⟩

theorem test_hot_threshold_not_below_warm :
    ((after (.setRack 5 0x2A [7, 1, 7, 208, 0xFF, 0, 60, 50, 45]) onAir).rack 7).hotThreshold = 50 := by
  decide +kernel

theorem test_rack_out_of_service_forgets_take_count :
    ((after (.setRack 5 0x2A [7, 0, 7, 208, 0xFF, 0, 60, 40, 45])
      (onAir.onRack 7 fun k => { k with lastTakeCount := some 41 })).rack 7).lastTakeCount = none := by
  decide +kernel

/-- A receiver rests in bay 23 of rack 7, which is ONLINE; program 8 is OPEN. -/
def resting (x : RosterEntry) : State :=
  ((withEntry (openProgram onAir) x).onRack 7 fun k => { k with link := .online }).onBay 7 23 fun b =>
    { b with occupancy := .occupied x.id 60 }

theorem witness_issue :
    let s := resting (receiver (.docked 7 23))
    s.TakesOrders ∧ s.now ≤ 5 ∧ s.sli.mode = .day ∧ (s.rack 7).present = true ∧
      (s.rack 7).link = .online ∧ s.ise.marks.get 7 = false ∧ s.transaction 0 = none ∧
      (∀ j, j < 0 → s.transaction j ≠ none) ∧ s.entry 0 = some (receiver (.docked 7 23)) ∧
      (s.bay 7 23).occupancy = .occupied 7 60 ∧ (s.rack 7).issueThreshold ≤ 60 ∧
      (s.bay 7 23).charger ≠ .fault ∧ (s.bay 7 23).foreign = false ∧
      (s.bay 7 23).reservation = none ∧ (s.program 8).isOpen = true ∧ (s.program 8).tour = 2 ∧
      s.rlc.queue.length < 15 := by
  unfold State.TakesOrders; decide +kernel

theorem witness_issue_mic :
    let s := resting (microphone (.docked 7 23))
    s.entry 0 = some (microphone (.docked 7 23)) ∧ s.hrs.slots.get 0 = .free ∧
      (∀ k' : Fin 16, k' < 0 → s.hrs.slots.get k' ≠ .free) := by decide +kernel

theorem witness_issue_unique (x : RosterEntry) :
    (∀ e' x', (resting x).entry e' = some x' → x'.id = x.id → e' = 0) ∧
      ∀ j y, (resting x).transaction j = some y → y.rack ≠ 7 := by
  refine ⟨fun e' x' h _ => withEntry_unique _ _ reset_entry e' x' h, fun j y h => ?_⟩
  have : (resting x).transaction j = none := by
    show (Table.fill 4 (none : Option Transaction)).get j = none
    simp
  rw [this] at h
  cases h

theorem test_issue_is_accepted :
    (after (.issue 5 0x2A [7, 0, 8, 0xFF, 0]) (resting (receiver (.docked 7 23)))).sli.transmitting =
      some (.answer ⟨0x2A, .accepted, [0, 7, 23, 0, 0, 7, 1, 0xFF]⟩) := by decide +kernel

theorem test_issue_below_threshold_finds_no_handset :
    (after (.issue 5 0x2A [7, 0, 8, 23, 0])
      ((resting (receiver (.docked 7 23))).onRack 7 fun k => { k with issueThreshold := 61 })).sli.transmitting =
        some (.answer ⟨0x2A, .noHandset, []⟩) := by decide +kernel

theorem test_read_of_missing_program :
    (after (.read 5 0x2A [1, 0, 32]) onAir).sli.transmitting = some (.answer ⟨0x2A, .noEntry, []⟩) := by
  decide +kernel

theorem test_status_clears_notices_lost :
    (after (.status 5 0x2A []) (onAir.onSli fun l => { l with noticesLost := true })).sli.noticesLost =
      false := by decide +kernel

theorem witness_modes :
    State.reset.sli.mode = .night ∧ State.reset.ap.sync = .stopped ∧ onAir.sli.mode = .day ∧
      onAir.ap.onAir = true ∧ 1 < (2 : Byte).toNat := by decide +kernel

theorem test_day_starts_syncing : (after (.day 5 0x2A []) State.reset).ap.sync = .syncing := by
  decide +kernel

theorem test_night_ends_superframes :
    (after (.night 5 0x2A []) onAir).ap.adatOut = [.controlWord 0 .a false] := by decide +kernel

theorem test_reset_order_is_answered_first :
    (after (.reset 5 0x2A [0]) onAir).sli.transmitting = some (.answer ⟨0x2A, .done, []⟩) := by
  decide +kernel

end Sys2Proof.Tests
end

section
/-! SUPPORT. SET_SOURCE (R18, R19): what the order's bytes are read as, what changing ENABLED does, and the
record the order leaves. -/

namespace Sys2Proof.Machine.SourceLaws

/-- Only the content of a place decides what changing it gives. -/
theorem modify_congr {n : Nat} {α : Type} {t : Table n α} {i : Fin n} {f g : α → α}
    (h : f (t.get i) = g (t.get i)) : t.modify i f = t.modify i g := by
  rw [Table.modify, h, Table.modify]

/-- The five fields SET SOURCE writes for every source, each brought into its range (R18). -/
def withLevels (g on off a h : Nat) (r : Source) : Source :=
  { r with
    gain := min 4095 g, onThreshold := min 32767 on, offThreshold := min off (min 32767 on)
    attack := max 1 (min 4 a), hang := h }

/-- The three fields SET SOURCE writes for a stream alone, beside ENABLED (R18). -/
def withIdle (idle : Bool) (pattern mask : BitVec 16) (r : Source) : Source :=
  { r with idleDetection := idle, idlePattern := pattern, idleMask := mask }

/-- The parameter block of SET SOURCE. -/
def setSourceBytes (k : Fin 24) (g on off a h : Nat) (en idle : Bool) (pattern mask : BitVec 16) :
    List Byte :=
  placeBytes k ++ wideBytes g ++ wideBytes on ++ wideBytes off ++ byteBytes a ++ byteBytes h ++
    flagBytes en ++ flagBytes idle ++ wordBytes pattern ++ wordBytes mask

/-- The answer code of SET SOURCE: DONE when every quantity lies in its range (R18). -/
def setSourceCode (g on off a : Nat) : AnswerCode :=
  if g ≤ 4095 ∧ on ≤ 32767 ∧ off ≤ on ∧ 1 ≤ a ∧ a ≤ 4 then .done else .doneClamped

theorem clampNat_fst (lo hi x : Nat) : (clampNat lo hi x).1 = max lo (min hi x) := rfl

theorem clampNat_snd (lo hi x : Nat) : (clampNat lo hi x).2 = true ↔ x < lo ∨ hi < x := by
  simp [clampNat]

/-- A quantity was clamped exactly when the answer is not DONE; the OFF threshold's upper end is the ON
threshold written. -/
theorem setSourceCode_eq (g on off a : Nat) :
    (if (clampNat 0 4095 g).2 || (clampNat 0 32767 on).2 ||
        (clampNat 0 (clampNat 0 32767 on).1 off).2 || (clampNat 1 4 a).2
      then AnswerCode.doneClamped else .done) = setSourceCode g on off a := by
  have h : ((clampNat 0 4095 g).2 || (clampNat 0 32767 on).2 ||
      (clampNat 0 (clampNat 0 32767 on).1 off).2 || (clampNat 1 4 a).2) = true ↔
      ¬(g ≤ 4095 ∧ on ≤ 32767 ∧ off ≤ on ∧ 1 ≤ a ∧ a ≤ 4) := by
    simp only [Bool.or_eq_true, clampNat_snd, clampNat_fst]
    omega
  simp only [h, setSourceCode, ite_not]

section
variable {k : Fin 24} {g on off a h : Nat} (hg : g < 65536) (hon : on < 65536) (hoff : off < 65536)
  (ha : a < 256) (hh : h < 256)
include hg hon hoff ha hh

/-- The order writes the five fields; for a stream also the idle detection, and ENABLED acts (R18, R19). -/
theorem setSourceOrder_writes (en idle : Bool) (pattern mask : BitVec 16) (s : State) :
    setSourceOrder (setSourceBytes k g on off a h en idle pattern mask) s =
      ⟨s.onSource k (if isStream k then
          fun r => (withIdle idle pattern mask (withLevels g on off a h r)).setEnabled en
        else withLevels g on off a h),
        setSourceCode g on off a, []⟩ := by
  have hlow (hi x : Nat) : (clampNat 0 hi x).1 = min hi x := by simp [clampNat]
  simp only [setSourceBytes, placeBytes, wideBytes, wordBytes, byteBytes, flagBytes, List.cons_append,
    List.nil_append, setSourceOrder, placeOf_source, quantity_bytes, BitVec.toNat_ofNat,
    Nat.reducePow, Nat.mod_eq_of_lt hg, Nat.mod_eq_of_lt hon, Nat.mod_eq_of_lt hoff,
    Nat.mod_eq_of_lt ha, Nat.mod_eq_of_lt hh, State.stored, setSourceCode_eq, flagOf_bytes,
    word16_bytes]
  simp only [hlow, clampNat_fst, min_comm (min 32767 on) off]
  split <;> rfl

end

theorem setEnabled_same {e : Bool} {r : Source} (h : r.enabled = e) : r.setEnabled e = r := by
  subst h
  simp [Source.setEnabled]

/-- An enabled stream starts in PRIMING on an empty queue (R19). -/
theorem setEnabled_on {r : Source} (h : r.enabled = false) :
    r.setEnabled true =
      { r with enabled := true, queue := [], stream := .priming, referenceSeq := none } := by
  simp [Source.setEnabled, h]

/-- A disabled one loses all it holds and its detector is reset (R19). -/
theorem setEnabled_off {r : Source} (h : r.enabled = true) :
    r.setEnabled false = { r.disable with enabled := false } := by
  simp [Source.setEnabled, h]

/-- SET_SOURCE taken: the record of the source is changed by `f` behind the five fields, wherever `f` is what
the order does to it. -/
theorem exec_setSource {s : State} {time : Time} {tag : Byte} {k : Fin 24} {g on off a h : Nat}
    {en idle : Bool} {pattern mask : BitVec 16} {f : Source → Source} (hs : s.TakesOrders)
    (hg : g < 65536) (hon : on < 65536) (hoff : off < 65536) (ha : a < 256) (hh : h < 256)
    (hf : ∀ r, r = withLevels g on off a h (s.source k) →
      (if isStream k then (withIdle idle pattern mask r).setEnabled en else r) = f r) :
    exec (.setSource time tag (setSourceBytes k g on off a h en idle pattern mask)) s =
      .next (s.afterOrder time tag (setSourceCode g on off a) [] fun u =>
        { u with sources := u.sources.modify k fun r => f (withLevels g on off a h r) }) := by
  refine orderCommand_taken hs (Nat.le_of_ble_eq_true rfl) ?_
  rw [setSourceOrder_writes hg hon hoff ha hh]
  congr 1
  have hf := hf _ rfl
  simp only [State.onSource]
  congr 1
  refine modify_congr ?_
  change _ = f (withLevels g on off a h (s.source k))
  rw [← hf]
  split <;> rfl

/-- Settles O48: the bytes are read as the fields they were written from (`setSourceOrder_writes`), and ENABLED
acts by its old value in the record. -/
theorem setSourceWritesRecord : Obligations.SetSourceWritesRecord := by
  unfold Obligations.SetSourceWritesRecord
  intro s time tag k g on off a h en idle pattern mask hs hg hon hoff ha hh order code after
  have writes (f : Source → Source)
      (hf : ∀ r, r.enabled = (s.source k).enabled →
        (if isStream k then (withIdle idle pattern mask r).setEnabled en else r) = f r) :
      exec order s = after f :=
    exec_setSource hs hg hon hoff ha hh fun r hr => hf r (hr ▸ rfl)
  clear_value order after
  refine ⟨fun hk => writes _ fun r hr => ?_, fun hk he => writes _ fun r hr => ?_,
    fun hk he hen => writes _ fun r hr => ?_, fun hk he hen => writes _ fun r hr => ?_⟩
  · have : isStream k = false := by simp [isStream, hk]
    simp [this]
  all_goals
    have : isStream k = true := by simp [isStream, hk]
    rw [if_pos this]
  · exact setEnabled_same (hr.trans he)
  · subst hen
    exact setEnabled_on (hr.trans he)
  · subst hen
    exact setEnabled_off (hr.trans he)

end Sys2Proof.Machine.SourceLaws
end

section
/-! SUPPORT. FEED frames (R30): what a frame for an ENABLED stream does in DAY, and the five ways its block can
meet the queue. -/

namespace Sys2Proof.Machine.SourceLaws

@[simp] theorem streamOf_ofNat {k : Fin 24} (hk : 16 ≤ k.val) :
    streamOf (BitVec.ofNat 8 k.val) = some k := by
  have : k.val % 256 = k.val := by omega
  simp [streamOf, this, hk]

/-- A FEED frame heard in DAY for an ENABLED stream gives the stream its block; nothing else but the clock and
the link's silence timer changes (R30, R177). -/
theorem exec_feedFrame {s : State} {time : Time} {k : Fin 24} {seq : SeqNumber} {samples : Block}
    (hr : s.resetHeld = false) (hh : s.sli.receive = .hunt) (ht : s.now ≤ time) (hk : 16 ≤ k.val)
    (hd : s.sli.mode = .day) (he : (s.source k).enabled = true) (hl : samples.length = 160)
    (hv : ∀ v ∈ samples, -32768 ≤ v ∧ v ≤ 32767) :
    exec (.feedFrame time (placeBytes k ++ wordBytes seq ++ sampleBytes samples)) s =
      .next (State.startTransmission { s with
        now := time
        sli := { s.sli with link := .linked, silenceTimer := some (time + 3000000) }
        sources := s.sources.set k ((s.source k).takeFeed ⟨seq, samples⟩) }) := by
  have hlen : (placeBytes k ++ wordBytes seq ++ sampleBytes samples).length = 323 := by
    simp [placeBytes, wordBytes, sampleBytes_length, hl]
  have hopen : (s.reachTime time).abandonSiteFrame = s.reachTime time := by
    simp [State.abandonSiteFrame, hh]
  have hnow : max s.now time = time := max_eq_right ht
  have hpay : (s.reachTime time).hearSite.takeFeedPayload
      (placeBytes k ++ wordBytes seq ++ sampleBytes samples) =
      (s.reachTime time).hearSite.onSource k (Source.takeFeed ⟨seq, samples⟩) := by
    have hday : (s.reachTime time).hearSite.sli.mode = .day := hd
    have hon : ((s.reachTime time).hearSite.source k).enabled = true := he
    simp [placeBytes, wordBytes, State.takeFeedPayload, streamOf_ofNat hk, State.feedStream, hday,
      hon, samplesOf_sampleBytes samples hv]
  change complete s _ = _
  rw [complete_running hr, State.arriveFeed, hopen, if_pos (by rw [hlen]; rfl), hpay]
  simp only [State.hearSite, State.onSource, State.onSli, State.reachTime, hnow]
  rfl

section
variable {r : Source} {new : FeedBlock}

/-- The tail's number is the one a FEED must be ahead of. -/
theorem feedReference_tail {front : List FeedBlock} {last : FeedBlock}
    (h : r.queue = front ++ [last]) : r.feedReference = some last.seqNumber := by
  simp [Source.feedReference, h]

/-- On an empty queue it is the reference sequence. -/
theorem feedReference_empty (h : r.queue = []) : r.feedReference = r.referenceSeq := by
  simp [Source.feedReference, h]

theorem takeFeed_stale {f : SeqNumber} (h : r.feedReference = some f)
    (ha : ahead new.seqNumber f = false) :
    r.takeFeed new = { r with staleFeeds := bump r.staleFeeds } := by
  simp [Source.takeFeed, h, ha]

theorem takeFeed_joins (h : ∀ f, r.feedReference = some f → ahead new.seqNumber f = true)
    (hl : r.queue.length < 8) : r.takeFeed new = { r with queue := r.queue ++ [new] } := by
  have hl : ¬8 ≤ r.queue.length := by omega
  cases hf : r.feedReference with
  | none => simp [Source.takeFeed, hf, hl]
  | some f => simp [Source.takeFeed, hf, hl, h f hf]

theorem takeFeed_overflows (h : ∀ f, r.feedReference = some f → ahead new.seqNumber f = true)
    (hl : 8 ≤ r.queue.length) {head : FeedBlock} {tail : List FeedBlock} (hq : r.queue = head :: tail) :
    r.takeFeed new = { r with
      queue := tail ++ [new]
      referenceSeq := some head.seqNumber
      overflowDrops := bump r.overflowDrops } := by
  have hd : r.dropHead = { r with queue := tail, referenceSeq := some head.seqNumber } := by
    simp [Source.dropHead, hq]
  cases hf : r.feedReference with
  | none => simp [Source.takeFeed, hf, hl, hd]
  | some f => simp [Source.takeFeed, hf, hl, h f hf, hd]

end

/-- Settles O30: the frame gives the stream its block (`exec_feedFrame`), which joins the queue, pushes the head
out of a full one, or is stale. -/
theorem feedFrameJoinsQueue : Obligations.FeedFrameJoinsQueue := by
  unfold Obligations.FeedFrameJoinsQueue
  intro s time k seq samples hr hh ht hk hd he hl hv r feed after
  have gives {f : Source} (hf : r.takeFeed ⟨seq, samples⟩ = f) : exec feed s = .next (after f) := by
    rw [← hf]
    exact exec_feedFrame hr hh ht hk hd he hl hv
  clear_value after feed
  refine ⟨fun hq ha => gives ?_, fun front last hq ha hlen => gives ?_,
    fun head tail last hq ha hlen => gives ?_, fun front last hq ha => gives ?_,
    fun f hq hf ha => gives ?_⟩
  · rw [takeFeed_joins (by rwa [feedReference_empty hq]) (by simp [hq]), hq]
    rfl
  · exact takeFeed_joins (by simpa [feedReference_tail hq] using ha) hlen
  · have href := feedReference_tail (front := head :: tail) hq
    rw [takeFeed_overflows (by simpa [href] using ha) hlen.ge hq]
    simp
  · exact takeFeed_stale (feedReference_tail hq) ha
  · exact takeFeed_stale ((feedReference_empty hq).trans hf) ha

end Sys2Proof.Machine.SourceLaws
end

section
/-! SUPPORT. The dequeue step of a stream (R31 to R33): the detector's step, the block store, a block played, the
slip check and an underrun, each said once. -/

namespace Sys2Proof.Machine.SourceLaws

/-! ## The detector (R21, R22) -/

/-- A detector step changes the detector's state and its two counters alone. -/
theorem stepDetector_only (l : Nat) (r : Source) :
    r.stepDetector l = { r with
      detector := (r.stepDetector l).detector
      attackCounter := (r.stepDetector l).attackCounter
      hangCounter := (r.stepDetector l).hangCounter } := by
  unfold Source.stepDetector
  cases r.detector <;> simp only <;> split_ifs <;> rfl

/-- Hearing a level changes those and the last level alone. -/
theorem hearLevel_only (l : Nat) (r : Source) :
    r.hearLevel l = { r with
      detector := (r.hearLevel l).detector
      attackCounter := (r.hearLevel l).attackCounter
      hangCounter := (r.hearLevel l).hangCounter
      lastLevel := l } := by
  unfold Source.hearLevel
  rw [stepDetector_only]

theorem hearLevel_store (l : Nat) (r : Source) : (r.hearLevel l).store = r.store := by
  rw [hearLevel_only]

theorem hearLevel_sourceClips (l : Nat) (r : Source) :
    (r.hearLevel l).sourceClips = r.sourceClips := by
  rw [hearLevel_only]

/-- Hearing a level is the step of the ten rows of R22. -/
theorem hearLevel_stepped (l : Nat) (r : Source) : DetectorStepped l r (r.hearLevel l) where
  lastLevel := rfl
  silentToActive hd hl ha := by
    simp [Source.hearLevel, Source.stepDetector, hd, ha, Nat.not_lt.2 hl]
  silentToOnset hd hl ha := by
    simp [Source.hearLevel, Source.stepDetector, hd, ha.ne', Nat.not_lt.2 hl]
  silentStays hd hl := by simp [Source.hearLevel, Source.stepDetector, hd, hl]
  onsetRises hd hl := by
    by_cases ha : r.attack ≤ r.attackCounter + 1
    · simp [Source.hearLevel, Source.stepDetector, hd, ha, Nat.not_lt.2 hl]
    · simp [Source.hearLevel, Source.stepDetector, hd, ha, Nat.not_lt.2 hl]
  onsetFalls hd hl := by simp [Source.hearLevel, Source.stepDetector, hd, hl]
  activeStays hd hl := by simp [Source.hearLevel, Source.stepDetector, hd, hl]
  activeToHanging hd hl hh := by
    simp [Source.hearLevel, Source.stepDetector, hd, Nat.not_le.2 hl, hh]
  activeToSilent hd hl hh := by
    simp [Source.hearLevel, Source.stepDetector, hd, Nat.not_le.2 hl, hh]
  hangingToActive hd hl := by simp [Source.hearLevel, Source.stepDetector, hd, hl]
  hangingFalls hd hl hc := by
    by_cases h1 : r.hangCounter = 1
    · simp [Source.hearLevel, Source.stepDetector, hd, Nat.not_le.2 hl, h1]
    · have : ¬r.hangCounter ≤ 1 := by omega
      simp [Source.hearLevel, Source.stepDetector, hd, Nat.not_le.2 hl, h1, this]

/-! ## The block store (R24) -/

/-- Replacing a block that is there leaves the new one as the one with its tag. -/
theorem find_replaceTagged {n t : Superframe} {samples : Block} {store : List StoredBlock}
    (ht : ∃ b ∈ store, b.tag = t) (hn : t = n ∨ ∀ b ∈ store, b.tag ≠ n) :
    (replaceTagged t ⟨n, samples⟩ store).find? (fun b => b.tag == n) = some ⟨n, samples⟩ := by
  induction store with
  | nil => simp at ht
  | cons b rest ih =>
    by_cases hb : b.tag = t
    · simp [replaceTagged, hb]
    · have hbn : b.tag ≠ n := by
        rcases hn with rfl | hn
        · exact hb
        · exact hn b (by simp)
      have ih := ih (by simpa [hb] using ht) (hn.imp_right fun h c hc => h c (by simp [hc]))
      simpa [replaceTagged, hb, hbn] using ih

/-- The oldest tag of a store that holds blocks is the tag of one of them. -/
theorem oldestTag_mem (n : Superframe) {store : List StoredBlock} (h : store ≠ []) :
    ∃ t, oldestTag n store = some t ∧ ∃ b ∈ store, b.tag = t := by
  induction store with
  | nil => exact absurd rfl h
  | cons b rest ih =>
    cases rest with
    | nil => exact ⟨b.tag, rfl, b, by simp⟩
    | cons c rest =>
      obtain ⟨t, ht, d, hd, hdt⟩ := ih (by simp)
      rw [oldestTag, ht]
      by_cases hlt : (n - b.tag).toNat < (n - t).toNat
      · exact ⟨t, if_pos hlt, d, List.mem_cons_of_mem b hd, hdt⟩
      · exact ⟨b.tag, if_neg hlt, b, by simp⟩

/-- A processed block is found in the store by its tag. -/
theorem find_storeBlock (n : Superframe) (samples : Block) (store : List StoredBlock) :
    (storeBlock n ⟨n, samples⟩ store).find? (fun b => b.tag == n) = some ⟨n, samples⟩ := by
  unfold storeBlock
  by_cases hany : ∃ b ∈ store, b.tag = n
  · rw [if_pos (by simpa using hany)]
    exact find_replaceTagged hany (.inl rfl)
  · rw [if_neg (by simpa using hany)]
    push Not at hany
    split
    · have : store.find? (fun b => b.tag == n) = none := by simpa using hany
      simp [this]
    · next hlen =>
      obtain ⟨t, ht, hb⟩ := oldestTag_mem n (store := store) (by rintro rfl; simp at hlen)
      simp only [ht]
      exact find_replaceTagged hb (.inr hany)

/-! ## A block played (R33) and the slip check (R32) -/

theorem isIdle_iff (r : Source) (b : Block) : r.isIdle b = true ↔ r.idleDetection = true ∧
    ∀ v ∈ b, (BitVec.ofInt 16 v ^^^ r.idlePattern) &&& r.idleMask = 0 := by
  simp [Source.isIdle]

/-- An idle block is heard as silence and not stored. -/
theorem playBlock_idle {r : Source} {b : Block} (n : Superframe) (h : r.isIdle b = true) :
    r.playBlock n b = r.hearLevel 0 := by
  simp [Source.playBlock, h]

/-- Any other block is scaled, heard at its level, and stored with its clips counted. -/
theorem playBlock_audible {r : Source} {b : Block} (n : Superframe) (h : ¬r.isIdle b = true) :
    r.playBlock n b = { r.hearLevel (blockLevel (gainBlock r.gain b)) with
      sourceClips := bumpBy (clipCount r.gain b) r.sourceClips
      store := storeBlock n ⟨n, gainBlock r.gain b⟩ r.store } := by
  simp only [Source.playBlock, if_neg h, hearLevel_store, hearLevel_sourceClips]

/-- A block played changes the detector, the level, the store and the clip counter alone. -/
theorem playBlock_only (n : Superframe) (b : Block) (r : Source) :
    r.playBlock n b = { r with
      detector := (r.playBlock n b).detector
      attackCounter := (r.playBlock n b).attackCounter
      hangCounter := (r.playBlock n b).hangCounter
      lastLevel := (r.playBlock n b).lastLevel
      store := (r.playBlock n b).store
      sourceClips := (r.playBlock n b).sourceClips } := by
  by_cases h : r.isIdle b = true
  · rw [playBlock_idle n h, hearLevel_only]
  · rw [playBlock_audible n h, hearLevel_only]

/-- The slip check changes the queue, the reference sequence, the run and the slip counter alone. -/
theorem checkSlip_only (r : Source) :
    r.checkSlip = { r with
      queue := r.checkSlip.queue
      referenceSeq := r.checkSlip.referenceSeq
      highMarkRun := r.checkSlip.highMarkRun
      slips := r.checkSlip.slips } := by
  unfold Source.checkSlip Source.dropHead
  split
  · rfl
  · split
    · rfl
    · split <;> rfl

section
variable {r : Source}

theorem checkSlip_low (h : r.queue.length ≤ 6) : r.checkSlip = { r with highMarkRun := 0 } := by
  simp [Source.checkSlip, h]

theorem checkSlip_counts (h : 6 < r.queue.length) (hr : r.highMarkRun < 49) :
    r.checkSlip = { r with highMarkRun := r.highMarkRun + 1 } := by
  have hr : r.highMarkRun + 1 < 50 := by omega
  simp [Source.checkSlip, Nat.not_le.2 h, hr]

theorem checkSlip_slips (h : 6 < r.queue.length) (hr : 49 ≤ r.highMarkRun) {head : FeedBlock}
    {tail : List FeedBlock} (hq : r.queue = head :: tail) :
    r.checkSlip = { r with
      queue := tail, referenceSeq := some head.seqNumber, slips := bump r.slips
      highMarkRun := 0 } := by
  have hr : ¬r.highMarkRun + 1 < 50 := by omega
  rw [Source.checkSlip, if_neg (Nat.not_le.2 h), if_neg hr]
  simp [Source.dropHead, hq]

end

/-! ## The dequeue step (R31) -/

theorem dequeue_priming {r : Source} (n : Superframe) (hs : r.stream = .priming)
    (hl : r.queue.length < 3) : r.dequeue n = { r.hearLevel 0 with highMarkRun := 0 } := by
  simp [Source.dequeue, hs, hl]

/-- An underrun; the third in a row sends the stream back to PRIMING. -/
theorem dequeue_underrun {r : Source} (n : Superframe) (hs : r.stream = .running) (hq : r.queue = []) :
    r.dequeue n =
      if r.underrunRun < 2 then { r.hearLevel 0 with
        underruns := bump r.underruns, highMarkRun := 0, underrunRun := r.underrunRun + 1 }
      else { r.hearLevel 0 with
        underruns := bump r.underruns, highMarkRun := 0, underrunRun := 0, stream := .priming
        referenceSeq := none } := by
  have h : r.underrunRun + 1 < 3 ↔ r.underrunRun < 2 := by omega
  simp only [Source.dequeue, hs, Source.runStream, hq, h]

/-- The record from which a dequeued block is played: the block has left the queue. -/
def dequeued (b : FeedBlock) (rest : List FeedBlock) (r : Source) : Source :=
  { r with queue := rest, referenceSeq := some b.seqNumber, underrunRun := 0, stream := .running }

/-- A RUNNING stream with a block, or a PRIMING one with three, plays the block, and the slip check follows. -/
theorem dequeue_plays {r : Source} {b : FeedBlock} {rest : List FeedBlock} (n : Superframe)
    (hq : r.queue = b :: rest) (hs : r.stream = .running ∨ 2 ≤ rest.length) :
    r.dequeue n = ((dequeued b rest r).playBlock n b.samples).checkSlip := by
  cases h : r.stream with
  | running => simp [Source.dequeue, Source.runStream, Source.dropHead, dequeued, hq, h]
  | priming =>
    have hl : 2 ≤ rest.length := hs.resolve_left (by simp [h])
    have hl : ¬rest.length + 1 < 3 := by omega
    simp [Source.dequeue, h, hl, Source.runStream, Source.dropHead, dequeued, hq]

/-- A detector step is a statement about the detector's fields, whatever stands in the others. -/
theorem stepped_of_dequeued {l : Nat} {b : FeedBlock} {rest : List FeedBlock} {r u : Source}
    (h : DetectorStepped l (dequeued b rest r) u) : DetectorStepped l r u := { h with }

/-- The slip check does not touch the detector. -/
theorem stepped_checkSlip {l : Nat} {a r : Source} (h : DetectorStepped l a r) :
    DetectorStepped l a r.checkSlip := by
  rw [checkSlip_only]
  exact { h with }

theorem checkSlip_store (r : Source) : r.checkSlip.store = r.store := by rw [checkSlip_only]

theorem checkSlip_sourceClips (r : Source) : r.checkSlip.sourceClips = r.sourceClips := by
  rw [checkSlip_only]

/-- Settles O31: an underrun and a priming step hear silence; otherwise the head is played (`dequeue_plays`), heard,
stored and found by its tag, and the slip check has its three outcomes. -/
theorem streamsDequeueAtStart : Obligations.StreamsDequeueAtStart := by
  unfold Obligations.StreamsDequeueAtStart
  intro n r u silent
  refine ⟨fun hs hl => ?_, fun hs hq => ⟨fun hr => ?_, fun hr => ?_⟩, fun b rest hq hs => ?_⟩
  · have hu : u = _ := dequeue_priming n hs hl
    clear_value u
    subst hu
    exact ⟨{ hearLevel_stepped 0 r with }, by rw [hearLevel_only]⟩
  · have hu : u = _ := (dequeue_underrun n hs hq).trans (if_pos hr)
    clear_value u
    subst hu
    exact ⟨{ hearLevel_stepped 0 r with }, by rw [hearLevel_only]⟩
  · have hu : u = _ := (dequeue_underrun n hs hq).trans (if_neg (by omega))
    clear_value u
    subst hu
    exact ⟨{ hearLevel_stepped 0 r with }, by rw [hearLevel_only]⟩
  · have hu : u = _ := dequeue_plays n hq hs
    clear_value u
    intro idle out
    have hidle : (dequeued b rest r).isIdle b.samples = true ↔ idle := isIdle_iff _ _
    refine ⟨fun h => ?_, fun h => ?_, ?_⟩
    · rw [playBlock_idle n (hidle.2 h)] at hu
      subst hu
      refine ⟨stepped_of_dequeued (stepped_checkSlip (hearLevel_stepped 0 _)), ?_, ?_⟩
      · rw [checkSlip_store, hearLevel_store]
        rfl
      · rw [checkSlip_sourceClips, hearLevel_sourceClips]
        rfl
    · rw [playBlock_audible n (mt hidle.1 h)] at hu
      subst hu
      refine ⟨stepped_of_dequeued (stepped_checkSlip { hearLevel_stepped _ (dequeued b rest r) with }),
        ?_, ?_⟩
      · rw [Source.blockTagged, checkSlip_store]
        exact find_storeBlock n _ _
      · rw [checkSlip_sourceClips]
        rfl
    · intro played
      have hp := playBlock_only n b.samples (dequeued b rest r)
      generalize (dequeued b rest r).playBlock n b.samples = p at hu hp
      have hpq : p.queue = rest := by rw [hp]; rfl
      have hpr : p.highMarkRun = r.highMarkRun := by rw [hp]; rfl
      refine ⟨fun hl => ?_, fun hl hr => ?_, fun head tail ht hl hr => ?_⟩ <;> simp only [played]
      · rw [hu, checkSlip_low (by rwa [hpq]), hp]
        rfl
      · rw [hu, checkSlip_counts (by rwa [hpq]) (by rwa [hpr]), hp]
        rfl
      · rw [hu, checkSlip_slips (by rwa [hpq]) (by rwa [hpr]) (hpq.trans ht), hp]
        rfl

end Sys2Proof.Machine.SourceLaws
end

section
/-! SUPPORT. The key recognizer (R113 to R115): the filtered key, the window, and each row of the table. -/

namespace Sys2Proof.Machine.KeyLaws

/-- The other key state is the one a key that differs is in. -/
theorem eq_down_of_ne_up {raw : KeyState} (h : raw ≠ .up) : raw = .down := by
  cases raw with
  | up => exact absurd rfl h
  | down => rfl

theorem eq_up_of_ne_down {raw : KeyState} (h : raw ≠ .down) : raw = .up := by
  cases raw with
  | up => rfl
  | down => exact absurd rfl h

/-- The recognizer with the filtered key: the third raw key in a row that disagrees is taken over (R113). -/
def filtered (raw : KeyState) (r : Recognizer) : Recognizer :=
  { r with
    key := if r.disagreement = 2 then raw else r.key
    disagreement := if raw = r.key ∨ r.disagreement = 2 then 0 else r.disagreement + 1 }

/-- A key state taken is a step of the filtered recognizer, told whether the filtered key changed. -/
theorem takeKey_eq {r : Recognizer} (raw : KeyState) (hd : r.disagreement ≤ 2) :
    r.takeKey raw = (filtered raw r).step (decide (raw ≠ r.key ∧ r.disagreement = 2)) := by
  unfold Recognizer.takeKey Recognizer.filterKey filtered
  by_cases hk : raw = r.key
  · simp [hk]
  · by_cases h2 : r.disagreement = 2
    · simp [hk, h2]
    · have hlt : r.disagreement < 2 := by omega
      simp [hk, h2, hlt]

section
variable {r : Recognizer} {raw : KeyState}

/-- Where the filtered key changes, the step runs on the raw key. -/
theorem takeKey_changed (h : raw ≠ r.key ∧ r.disagreement = 2) :
    r.takeKey raw = (filtered raw r).step true := by
  rw [takeKey_eq raw (by omega), decide_eq_true h]

theorem filtered_key_changed (h : raw ≠ r.key ∧ r.disagreement = 2) : (filtered raw r).key = raw :=
  if_pos h.2

theorem takeKey_unchanged (hd : r.disagreement ≤ 2) (h : ¬(raw ≠ r.key ∧ r.disagreement = 2)) :
    r.takeKey raw = (filtered raw r).step false := by
  rw [takeKey_eq raw hd, decide_eq_false h]

end

section
variable {r : Recognizer}

/-- Outside a pattern the table alone decides. -/
theorem step_outside (changed : Bool) (h : r.state.inPattern = false) :
    r.step changed = r.stepTable changed := by
  simp [Recognizer.step, h]

/-- A pattern that is not done within the window is given up (R115). -/
theorem step_expired (changed : Bool) (h : r.state.inPattern = true) (hw : 150 ≤ r.window) :
    r.step changed = (r.enter (if r.key = .up then .idle else .holdoff), false) := by
  have hw : 150 < r.window + 1 := by omega
  simp [Recognizer.step, h, hw]

/-- Within the window the table decides, the window counted. -/
theorem step_within (changed : Bool) (h : r.state.inPattern = true) (hw : r.window < 150) :
    r.step changed = Recognizer.stepTable changed { r with window := r.window + 1 } := by
  have hw : ¬150 < r.window + 1 := by omega
  simp [Recognizer.step, h, hw]

/-! The rows of the table. -/

theorem step_idle_pressed (hs : r.state = .idle) (hk : r.key = .down) :
    r.step true = (r.firstPress, false) := by
  rw [step_outside _ (by rw [hs]; rfl)]
  simp [Recognizer.stepTable, hs, hk]

theorem step_idle_quiet (hs : r.state = .idle) : r.step false = ({ r with state := .idle }, false) := by
  rw [step_outside _ (by rw [hs]; rfl)]
  simp only [Recognizer.stepTable, hs, Bool.false_and]
  rw [← hs]
  rfl

theorem step_press_held {p : RecognizerState} (hp : p = .press1 ∨ p = .press2) (hs : r.state = p)
    (hw : r.window < 150) (hl : r.press < 50) :
    r.step false = ({ r with state := p, press := r.press + 1, window := r.window + 1 }, false) := by
  rw [step_within _ (by rcases hp with rfl | rfl <;> rw [hs] <;> rfl) hw]
  rcases hp with rfl | rfl <;> simp [Recognizer.stepTable, Recognizer.holdPress, hs, hl]

theorem step_press_speech (hs : r.state = .press1 ∨ r.state = .press2) (hw : r.window < 150)
    (hl : 50 ≤ r.press) : r.step false = (r.enter .holdoff, false) := by
  rw [step_within _ (by rcases hs with hs | hs <;> rw [hs] <;> rfl) hw]
  rcases hs with hs | hs <;>
    simp [Recognizer.stepTable, Recognizer.holdPress, Recognizer.enter, hs, hl]

theorem step_press1_released (hs : r.state = .press1) (hw : r.window < 150) (hl : 20 ≤ r.press) :
    r.step true =
      ({ r with state := .gap, press := 0, gapCount := 1, window := r.window + 1 }, false) := by
  rw [step_within _ (by rw [hs]; rfl) hw]
  simp [Recognizer.stepTable, hs, hl]

theorem step_press1_short (hs : r.state = .press1) (hw : r.window < 150) (hl : r.press < 20) :
    r.step true = (r.enter .idle, false) := by
  rw [step_within _ (by rw [hs]; rfl) hw]
  simp [Recognizer.stepTable, hs, Nat.not_le.2 hl, Recognizer.enter]

theorem step_gap_open (hs : r.state = .gap) (hw : r.window < 150) (hl : r.gapCount < 50) :
    r.step false =
      ({ r with state := .gap, gapCount := r.gapCount + 1, window := r.window + 1 }, false) := by
  rw [step_within _ (by rw [hs]; rfl) hw]
  simp [Recognizer.stepTable, hs, hl]

theorem step_gap_long (hs : r.state = .gap) (hw : r.window < 150) (hl : 50 ≤ r.gapCount) :
    r.step false = (r.enter .idle, false) := by
  rw [step_within _ (by rw [hs]; rfl) hw]
  simp [Recognizer.stepTable, hs, hl, Recognizer.enter]

theorem step_gap_closed (hs : r.state = .gap) (hw : r.window < 150) (hl : 10 ≤ r.gapCount) :
    r.step true =
      ({ r with state := .press2, press := 1, gapCount := 0, window := r.window + 1 }, false) := by
  rw [step_within _ (by rw [hs]; rfl) hw]
  simp [Recognizer.stepTable, hs, hl]

/-- A second press too soon after the first is a first press. -/
theorem step_gap_short (hs : r.state = .gap) (hw : r.window < 150) (hl : r.gapCount < 10) :
    r.step true = (r.firstPress, false) := by
  rw [step_within _ (by rw [hs]; rfl) hw]
  simp [Recognizer.stepTable, hs, Nat.not_le.2 hl, Recognizer.firstPress]

/-- A second press long enough ends the pattern: the recall is raised (R114). -/
theorem step_press2_released (hs : r.state = .press2) (hw : r.window < 150) (hl : 20 ≤ r.press) :
    r.step true = (r.enter .idle, true) := by
  rw [step_within _ (by rw [hs]; rfl) hw]
  simp [Recognizer.stepTable, hs, hl, Recognizer.enter]

theorem step_press2_short (hs : r.state = .press2) (hw : r.window < 150) (hl : r.press < 20) :
    r.step true = (r.enter .idle, false) := by
  rw [step_within _ (by rw [hs]; rfl) hw]
  simp [Recognizer.stepTable, hs, hl, Recognizer.enter]

theorem step_holdoff_released (hs : r.state = .holdoff) (hk : r.key = .up) :
    r.step true = (r.enter .idle, false) := by
  rw [step_outside _ (by rw [hs]; rfl)]
  simp [Recognizer.stepTable, hs, hk]

theorem step_holdoff_quiet (hs : r.state = .holdoff) :
    r.step false = ({ r with state := .holdoff }, false) := by
  rw [step_outside _ (by rw [hs]; rfl)]
  simp only [Recognizer.stepTable, hs, Bool.false_and]
  rw [← hs]
  rfl

end

end Sys2Proof.Machine.KeyLaws
end

section
/-! SUPPORT. Recalls raised by a key (R114, R117). -/

namespace Sys2Proof.Machine.KeyLaws

/-- With no expiry waiting TRC holds every recall order it keeps. -/
theorem held_eq {c : TourControl} (h : ∀ o ∈ c.recalls, 0 < o.countdown) : c.held = c.recalls := by
  simpa [TourControl.held, List.filter_eq_self] using h

section
variable {c : TourControl} {tour : Fin 16} {cause : RecallCause}

theorem takeRecall_recognizers :
    (c.takeRecall tour cause).1.recognizers = c.recognizers := by
  unfold TourControl.takeRecall
  split
  · rfl
  · split <;> rfl

/-- A recall held for the tour is restarted in its place. -/
theorem takeRecall_restarted (hc : ∀ o ∈ c.recalls, 0 < o.countdown) {before rest : List RecallOrder}
    {old : RecallOrder} (hq : c.recalls = before ++ old :: rest) (ho : old.tour = tour)
    (hn : (c.recalls.map RecallOrder.tour).Nodup) :
    c.takeRecall tour cause =
      ({ c with recalls := before ++ ⟨tour, cause, 50⟩ :: rest }, some .restarted) := by
  subst ho
  have hother : ∀ o ∈ before ++ rest, ¬o.tour = old.tour := by
    rw [hq, List.map_append, List.map_cons, List.nodup_middle, ← List.map_append,
      List.nodup_cons] at hn
    intro o hm he
    exact hn.1 (he ▸ List.mem_map_of_mem hm)
  have hsame (l : List RecallOrder) (hl : ∀ o ∈ l, ¬o.tour = old.tour) :
      (l.map fun o => if o.tour = old.tour then (⟨old.tour, cause, 50⟩ : RecallOrder) else o) = l :=
    (List.map_congr_left fun o ho => if_neg (hl o ho)).trans (List.map_id l)
  rw [TourControl.takeRecall, held_eq hc, if_pos (by simp [hq])]
  simp only [List.mem_append] at hother
  simp [hq, hsame before fun o h => hother o (.inl h), hsame rest fun o h => hother o (.inr h)]

theorem takeRecall_added (hc : ∀ o ∈ c.recalls, 0 < o.countdown)
    (ht : tour ∉ c.recalls.map RecallOrder.tour) (hl : c.recalls.length < 4) :
    c.takeRecall tour cause =
      ({ c with recalls := c.recalls ++ [⟨tour, cause, 50⟩] }, some .added) := by
  rw [TourControl.takeRecall, held_eq hc, if_neg (by simpa using ht), if_pos hl]

theorem takeRecall_full (hc : ∀ o ∈ c.recalls, 0 < o.countdown)
    (ht : tour ∉ c.recalls.map RecallOrder.tour) (hl : 4 ≤ c.recalls.length) :
    c.takeRecall tour cause = (c, none) := by
  rw [TourControl.takeRecall, held_eq hc, if_neg (by simpa using ht), if_neg (Nat.not_lt.2 hl)]

end

section
variable {s : State} {k : Fin 16} {id : HandsetId} {tour : Fin 16}

/-- A recall that is taken tells the site so. -/
theorem keyRecall_taken {c : TourControl} {taken : RecallTaken}
    (h : s.trc.takeRecall tour .key = (c, some taken)) : s.keyRecall k id tour =
      (s.onTrc fun _ => c).sendNotice (.recall tour .key taken (some (k, id))) := by
  simp [State.keyRecall, State.raiseRecall, h]

theorem keyRecall_dropped {c : TourControl} (h : s.trc.takeRecall tour .key = (c, none)) :
    s.keyRecall k id tour = s.sendNotice (.recallDropped tour k id) := by
  simp [State.keyRecall, State.raiseRecall, h]

theorem sendNotice_trc (s : State) (x : Notice) : (s.sendNotice x).trc = s.trc := by
  rw [s.sendNotice_only x]

/-- Whatever comes of the recall, the recognizers stand. -/
theorem keyRecall_recognizers : (s.keyRecall k id tour).trc.recognizers = s.trc.recognizers := by
  have hc := takeRecall_recognizers (c := s.trc) (tour := tour) (cause := .key)
  cases h : s.trc.takeRecall tour .key with
  | mk c taken =>
    rw [h] at hc
    cases taken with
    | none => rw [keyRecall_dropped h, sendNotice_trc]
    | some taken => rw [keyRecall_taken h, sendNotice_trc]; exact hc

/-- A key state taken steps its slot's recognizer and no other. -/
theorem takeKey_recognizers (raw : KeyState) : (s.takeKey k id tour raw).trc.recognizers =
    s.trc.recognizers.set k ((s.trc.recognizers.get k).takeKey raw).1 := by
  simp only [State.takeKey]
  split
  · rw [keyRecall_recognizers, State.onTrc_trc]
  · rfl

theorem takeKey_quiet {raw : KeyState} (h : ((s.trc.recognizers.get k).takeKey raw).2 = false) :
    s.takeKey k id tour raw = s.onTrc fun c => { c with
      recognizers := c.recognizers.set k ((s.trc.recognizers.get k).takeKey raw).1 } := by
  simp [State.takeKey, h]

theorem takeKey_raises {raw : KeyState} (h : ((s.trc.recognizers.get k).takeKey raw).2 = true) :
    s.takeKey k id tour raw = (s.onTrc fun c => { c with
      recognizers := c.recognizers.set k ((s.trc.recognizers.get k).takeKey raw).1 }).keyRecall k id
        tour := by
  simp [State.takeKey, h]

end

/-- A notice that queues joins the notices that wait. -/
theorem sendNotice_queues {s q : State} {x : Notice} (h : s.Queues x) (hq : q.sli = s.sli) :
    (q.sendNotice x).sli =
      { s.sli with notices := s.sli.notices ++ [⟨q.ap.superframe, x⟩] } := by
  obtain ⟨hm, hl, -⟩ := h
  have hm : q.masked x = false := by rw [State.masked, hq]; exact hm
  simp [State.sendNotice, State.sendNoticeAt, hm, State.queueNotice, hq, hl]

/-- So it is the last on its way out when the event ends. -/
theorem noticesOut_queued {s v : State} {n : Superframe} {x : Notice} (h : s.Queues x)
    (hv : v.sli = { s.sli with notices := s.sli.notices ++ [⟨n, x⟩] }) :
    v.startTransmission.sli.noticesOut = s.sli.noticesOut ++ [⟨n, x⟩] := by
  rw [State.startTransmission_noticesOut (by rw [hv]; exact h.2.2), hv]
  simp [SiteLink.noticesOut]

/-- Where no frame waits while the line is free, none starts. -/
theorem startTransmission_settled {s : State} (h : s.sli.Settled) : s.startTransmission = s := by
  cases ht : s.sli.transmitting with
  | some f => exact State.startTransmission_busy ht
  | none =>
    obtain ⟨ha, hn, ht⟩ := h ht
    exact State.startTransmission_empty ha hn ht

end Sys2Proof.Machine.KeyLaws
end

section
/-! SUPPORT. An in-time mic arrival (R7, R8, R12, R27 to R29): AP's count and SRC's sorting in either order, and
what each kind of arrival gives the recognizer of its slot. -/

namespace Sys2Proof.Machine.KeyLaws

/-! ## What AP's count leaves alone -/

/-- `t` is `s` in all that the sorting of an arrival reads and changes, the site link apart. -/
structure SameArrival (s t : State) : Prop where
  hrs : t.hrs = s.hrs
  trc : t.trc = s.trc
  sources : t.sources = s.sources
  handovers : t.handovers = s.handovers
  superframe : t.ap.superframe = s.ap.superframe

theorem SameArrival.refl (s : State) : SameArrival s s := ⟨rfl, rfl, rfl, rfl, rfl⟩

theorem SameArrival.trans {s t u : State} (h1 : SameArrival s t) (h2 : SameArrival t u) :
    SameArrival s u :=
  ⟨h2.hrs.trans h1.hrs, h2.trc.trans h1.trc, h2.sources.trans h1.sources,
    h2.handovers.trans h1.handovers, h2.superframe.trans h1.superframe⟩

theorem SameArrival.of_siteLink {s t : State} (h : s.OnlySiteLink t) : SameArrival s t := by
  rw [h]
  exact ⟨rfl, rfl, rfl, rfl, rfl⟩

theorem onAp_same (s : State) (f : AirPort → AirPort) (h : (f s.ap).superframe = s.ap.superframe) :
    SameArrival s (s.onAp f) := ⟨rfl, rfl, rfl, rfl, h⟩

theorem airOverflow_same (s : State) : SameArrival s s.airOverflow := by
  unfold State.airOverflow
  split
  · refine .trans (onAp_same s _ ?_)
      (.of_siteLink ((State.sendNoticeAt_only _ _ _).trans (State.onSli_only _ _)))
    rfl
  · exact .of_siteLink s.raiseAirDegraded_only

/-- The air error counter's step leaves the sorting's part of the state alone (R12, R13). -/
theorem airErrorStep_same (c : MicArrival) (s : State) : SameArrival s (State.airErrorStep c s) := by
  cases c with
  | good b => exact ⟨rfl, rfl, rfl, rfl, rfl⟩
  | absent => exact .refl s
  | bad =>
    simp only [State.airErrorStep]
    split
    · exact onAp_same s _ rfl
    · exact .trans (onAp_same s _ (by rfl)) (airOverflow_same _)

theorem airErrorStep_good_sli (b : MicBlock) (s : State) :
    (State.airErrorStep (.good b) s).sli = s.sli := rfl

/-! ## The arrival -/

/-- Whichever comes first, AP's count or SRC's sorting (log 2), the sorting runs on a state `u` that is `s` as it sees
it, and leaves what `v` is; with a good block the count touches no notice either. -/
theorem eitherOrder_sorted (s : State) (k : Fin 16) (c : MicArrival) : ∃ u v,
    s.inEitherOrder (State.airErrorStep c) (State.sortMic k c) = v ∧
      SameArrival s u ∧ SameArrival (State.sortMic k c u) v ∧
      (∀ b, c = .good b → u.sli = s.sli ∧ v.sli = (State.sortMic k c u).sli) := by
  have hchoice : SameArrival s { s with choices := s.choices.drop 1 } := ⟨rfl, rfl, rfl, rfl, rfl⟩
  rcases s.inEitherOrder_cases (State.airErrorStep c) (State.sortMic k c) with h | h
  · exact ⟨_, _, h, hchoice, airErrorStep_same c _,
      fun b hb => ⟨rfl, hb ▸ airErrorStep_good_sli b _⟩⟩
  · exact ⟨_, _, h, hchoice.trans (airErrorStep_same c _), .refl _,
      fun b hb => ⟨hb ▸ airErrorStep_good_sli b _, rfl⟩⟩

/-- So is an in-time mic arrival (R7, R8), at whose end SLI starts the next frame. -/
theorem exec_micArrival {s : State} {k : Fin 16} (hr : s.resetHeld = false)
    (ha : s.ap.onAir = true) (hm : s.ap.micMarks.get k ≠ some s.ap.superframe) (status : Byte)
    (content : List Byte) : ∃ u v,
      exec (.uplinkArrival ([.ofNat 8 k.val, status] ++ wordBytes s.ap.superframe ++ content)) s =
        .next v.startTransmission ∧
      SameArrival s u ∧ SameArrival (State.sortMic k (micArrivalOf status content) u) v ∧
      (∀ b, micArrivalOf status content = .good b → u.sli = s.sli ∧
        v.sli = (State.sortMic k (micArrivalOf status content) u).sli) := by
  have hparse : arrivalOf ([.ofNat 8 k.val, status] ++ wordBytes s.ap.superframe ++ content) =
      some (.mic k s.ap.superframe (micArrivalOf status content)) := by
    simp [arrivalOf, wordBytes]
  obtain ⟨u, v, hv, hu, hsort, hgood⟩ := eitherOrder_sorted
    (s.onAp fun a => { a with micMarks := a.micMarks.set k (some s.ap.superframe) }) k
    (micArrivalOf status content)
  refine ⟨u, v, ?_, (onAp_same s _ (by rfl)).trans hu, hsort, hgood⟩
  change complete s _ = _
  rw [complete_running hr, ← hv]
  simp only [ha, if_true, hparse, State.takeMic, ne_eq, not_true_eq_false, if_false, hm]

theorem micArrivalOf_missing {status : Byte} (h : status ≠ 0) (content : List Byte) :
    micArrivalOf status content = .bad ∨ micArrivalOf status content = .absent := by
  unfold micArrivalOf
  rw [if_neg h]
  split <;> simp

/-- A GOOD transfer of full length is read back as its block. -/
theorem micArrivalOf_good (id : HandsetId) (key battery : Byte) {samples : List Byte}
    (hl : samples.length = 320) :
    micArrivalOf 0 (idBytes id ++ [key, battery] ++ samples) =
      .good ⟨id, if key = 0 then .up else .down, batteryOf battery, samplesOf samples⟩ := by
  have ht : samples.take 320 = samples := List.take_of_length_le hl.le
  simp [micArrivalOf, idBytes, micBlockOf, hl, ht]

section
variable {u : State} {k : Fin 16} {x : RosterEntry}

theorem sortMic_unbound (h : u.boundHandset k = none) (c : MicArrival) :
    State.sortMic k c u = u := by
  simp [State.sortMic, h]

variable {w : Assignment}

/-- A missing block gives the recognizer the last raw key again (R29, R113). -/
theorem sortMic_missing {c : MicArrival} (h : u.boundHandset k = some x)
    (hw : x.state.work = some w) (hc : c = .bad ∨ c = .absent) :
    ∃ q : State, State.sortMic k c u =
      q.takeKey k x.id w.tour (u.source (micSource k)).lastRawKey ∧ q.trc = u.trc := by
  rcases hc with rfl | rfl <;> simp only [State.sortMic, h, State.micMissing, State.tellKey, hw]
  · exact ⟨_, rfl, rfl⟩
  · exact ⟨_, rfl, rfl⟩

/-- A good block gives it its key (R28, R113). -/
theorem sortMic_good {b : MicBlock} (h : u.boundHandset k = some x)
    (hw : x.state.work = some w) (hid : b.id = x.id) :
    ∃ q : State, State.sortMic k (.good b) u = q.takeKey k x.id w.tour b.key ∧
      q.trc = u.trc ∧ q.sli = u.sli ∧ q.ap = u.ap := by
  simp only [State.sortMic, h, hid, if_true, State.micGood, State.tellKey, hw]
  exact ⟨_, rfl, rfl, rfl, rfl⟩

end

theorem startTransmission_same (s : State) : SameArrival s s.startTransmission :=
  .of_siteLink s.startTransmission_only

theorem SameArrival.boundHandset {s t : State} (h : SameArrival s t) (k : Fin 16) :
    t.boundHandset k = s.boundHandset k := by
  unfold State.boundHandset State.entry
  rw [h.hrs]

section
variable {s : State} {k : Fin 16} (hr : s.resetHeld = false) (ha : s.ap.onAir = true)
  (hm : s.ap.micMarks.get k ≠ some s.ap.superframe)
include hr ha hm

/-- An arrival of an unbound slot reaches neither SRC nor HRS nor TRC (R27). -/
theorem unboundArrival_ignored (hb : s.boundHandset k = none) (status : Byte) (content : List Byte) :
    ∃ t, exec (.uplinkArrival ([.ofNat 8 k.val, status] ++ wordBytes s.ap.superframe ++ content)) s =
      .next t ∧ t.trc = s.trc ∧ t.sources = s.sources ∧ t.handovers = s.handovers := by
  obtain ⟨u, v, hv, hu, hsort, -⟩ := exec_micArrival hr ha hm status content
  rw [sortMic_unbound ((hu.boundHandset k).trans hb)] at hsort
  have hsame := (hu.trans hsort).trans (startTransmission_same v)
  exact ⟨_, hv, hsame.trc, hsame.sources, hsame.handovers⟩

variable {x : RosterEntry} {w : Assignment} (hb : s.boundHandset k = some x)
  (hw : x.state.work = some w)
include hb hw

/-- A missing block steps the slot's recognizer with the last raw key. -/
theorem missingArrival_repeatsKey {status : Byte} (h0 : status ≠ 0) (content : List Byte) :
    ∃ t, exec (.uplinkArrival ([.ofNat 8 k.val, status] ++ wordBytes s.ap.superframe ++ content)) s =
      .next t ∧ t.trc.recognizers = s.trc.recognizers.set k
        ((s.trc.recognizers.get k).takeKey (s.source (micSource k)).lastRawKey).1 := by
  obtain ⟨u, v, hv, hu, hsort, -⟩ := exec_micArrival hr ha hm status content
  obtain ⟨q, htake, hq⟩ := sortMic_missing ((hu.boundHandset k).trans hb) hw
    (micArrivalOf_missing h0 content)
  have hraw : u.source (micSource k) = s.source (micSource k) := by
    rw [State.source, hu.sources, State.source]
  rw [htake] at hsort
  refine ⟨_, hv, ?_⟩
  rw [(hsort.trans (startTransmission_same v)).trc, takeKey_recognizers, hq, hu.trc, hraw]

/-- A good block gives TRC its key, from a state `q` with the notices and the Tour Control of `s`. -/
theorem goodArrival_takesKey (key battery : Byte) {samples : List Byte} (hl : samples.length = 320) :
    ∃ q v : State, q.trc = s.trc ∧ q.sli = s.sli ∧ q.ap.superframe = s.ap.superframe ∧
      exec (.uplinkArrival ([.ofNat 8 k.val, 0] ++ wordBytes s.ap.superframe ++
        (idBytes x.id ++ [key, battery] ++ samples))) s = .next v.startTransmission ∧
      v.startTransmission.trc =
        (q.takeKey k x.id w.tour (if key = 0 then .up else .down)).trc ∧
      v.sli = (q.takeKey k x.id w.tour (if key = 0 then .up else .down)).sli := by
  obtain ⟨u, v, hv, hu, hsort, hsli⟩ :=
    exec_micArrival hr ha hm 0 (idBytes x.id ++ [key, battery] ++ samples)
  have hgood := micArrivalOf_good x.id key battery hl
  obtain ⟨husli, hvsli⟩ := hsli _ hgood
  obtain ⟨q, htake, hqt, hqs, hqa⟩ := sortMic_good ((hu.boundHandset k).trans hb) hw
    (b := ⟨x.id, if key = 0 then .up else .down, batteryOf battery, samplesOf samples⟩) rfl
  rw [hgood, htake] at hsort hvsli
  exact ⟨q, v, hqt.trans hu.trc, hqs.trans husli, by rw [hqa, hu.superframe], hv,
    (hsort.trans (startTransmission_same v)).trc, hvsli⟩

end

/-! ## A pattern raises its recall (R114, R117) -/

section
variable {s q v : State} {k : Fin 16} {id : HandsetId} {tour : Fin 16} {raw : KeyState}
  {R : Table 16 Recognizer} (ht : q.trc = s.trc) (hs : q.sli = s.sli)
  (hR : R = s.trc.recognizers.set k ((s.trc.recognizers.get k).takeKey raw).1)
  (hout : ((s.trc.recognizers.get k).takeKey raw).2 = true)
include ht hs hR hout

/-- A recall taken: TRC's orders are those it leaves, and its notice is the next on its way out. -/
theorem takeKey_recallTaken {recalls : List RecallOrder} {taken : RecallTaken}
    (htake : (⟨R, s.trc.recalls⟩ : TourControl).takeRecall tour .key = (⟨R, recalls⟩, some taken)) :
    (q.takeKey k id tour raw).trc = ⟨R, recalls⟩ ∧
      (s.Queues (.recall tour .key taken (some (k, id))) →
        (q.takeKey k id tour raw).sli = { s.sli with notices := s.sli.notices ++
          [⟨q.ap.superframe, .recall tour .key taken (some (k, id))⟩] }) := by
  subst hR
  rw [← ht] at hout htake ⊢
  rw [takeKey_raises hout, keyRecall_taken htake]
  exact ⟨sendNotice_trc _ _, fun h => sendNotice_queues h hs⟩

/-- A recall dropped: TRC keeps its orders, and the notice says so. -/
theorem takeKey_recallDropped
    (htake : (⟨R, s.trc.recalls⟩ : TourControl).takeRecall tour .key = (⟨R, s.trc.recalls⟩, none)) :
    (q.takeKey k id tour raw).trc = ⟨R, s.trc.recalls⟩ ∧
      (s.Queues (.recallDropped tour k id) →
        (q.takeKey k id tour raw).sli = { s.sli with notices := s.sli.notices ++
          [⟨q.ap.superframe, .recallDropped tour k id⟩] }) := by
  subst hR
  rw [← ht] at hout htake ⊢
  rw [takeKey_raises hout, keyRecall_dropped htake]
  exact ⟨sendNotice_trc _ _, fun h => sendNotice_queues h hs⟩

end

end Sys2Proof.Machine.KeyLaws
end

section
/-! SUPPORT. The statement about the key recognizers. -/

namespace Sys2Proof.Machine.KeyLaws

/-- Settles O53: the filtered key and the rows of the table give the recognizer's step; an arrival reaches its slot's
recognizer in either order with AP's count (`exec_micArrival`), and a pattern raises its recall. -/
theorem keyPatternRaisesRecall : Obligations.KeyPatternRaisesRecall := by
  unfold Obligations.KeyPatternRaisesRecall
  refine ⟨fun r raw hd => ?_, ?_⟩
  · intro changed f run goes
    have yes (hc : changed) {v} (h : (filtered raw r).step true = v) : r.takeKey raw = v :=
      (takeKey_changed hc).trans h
    have no (hc : ¬changed) {v} (h : (filtered raw r).step false = v) : r.takeKey raw = v :=
      (takeKey_unchanged hd hc).trans h
    refine ⟨fun hs hk => ⟨fun hc => yes hc (step_idle_pressed hs ?_),
        fun hc => no hc (step_idle_quiet hs)⟩,
      fun hs hw => (takeKey_eq raw hd).trans (step_expired _ ?_ hw),
      fun hs _ hw => ⟨fun hc hp => no hc (step_press_held (.inl rfl) hs hw hp),
        fun hc hp => no hc (step_press_speech (.inl hs) hw hp),
        fun hc hp _ => yes hc (step_press1_released hs hw hp),
        fun hc hp => yes hc (step_press1_short hs hw hp)⟩,
      fun hs _ hw => ⟨fun hc hg => no hc (step_gap_open hs hw hg),
        fun hc hg => no hc (step_gap_long hs hw hg),
        fun hc hg _ => yes hc (step_gap_closed hs hw hg),
        fun hc hg => yes hc (step_gap_short hs hw hg)⟩,
      fun hs _ hw => ⟨fun hc hp => no hc (step_press_held (.inr rfl) hs hw hp),
        fun hc hp => no hc (step_press_speech (.inr hs) hw hp),
        fun hc hp _ => yes hc (step_press2_released hs hw hp),
        fun hc hp => yes hc (step_press2_short hs hw hp)⟩,
      fun hs hk => ⟨fun hc => yes hc (step_holdoff_released hs ?_),
        fun hc => no hc (step_holdoff_quiet hs)⟩⟩
    · exact (filtered_key_changed hc).trans (eq_down_of_ne_up (hk ▸ hc.1))
    · rcases hs with hs | hs | hs <;> (change r.state.inPattern = true; rw [hs]; rfl)
    · exact (filtered_key_changed hc).trans (eq_up_of_ne_down (hk ▸ hc.1))
  · intro s k src hr ha hsrc hm n arrival
    obtain rfl : src = micSource k := Fin.ext hsrc
    refine ⟨fun status content hfree => unboundArrival_ignored hr ha hm ?_ status content,
      fun e x w he hx hw => ?_⟩
    · unfold State.boundHandset
      split
      · next e he => exact absurd he (hfree e)
      · rfl
    · have hb : s.boundHandset k = some x := by simp [State.boundHandset, he, hx]
      refine ⟨fun status content h0 => missingArrival_repeatsKey hr ha hm hb hw h0 content,
        fun key battery samples hl => ?_⟩
      intro good out
      obtain ⟨q, v, hqt, hqs, hqn, hv, htrc, hsli⟩ :=
        goodArrival_takesKey hr ha hm hb hw key battery hl
      refine ⟨fun hout => ?_, fun hout hpos => ?_⟩
      · rw [takeKey_quiet (by rw [hqt]; exact hout), hqt] at htrc
        rw [takeKey_quiet (by rw [hqt]; exact hout)] at hsli
        refine ⟨_, hv, by rw [htrc]; simp [hqt, out], fun hset => ?_⟩
        have hvs : v.sli = s.sli := hsli.trans hqs
        rw [startTransmission_settled (by rwa [hvs]), hvs]
      · intro after
        have gives {recalls notice}
            (h : (q.takeKey k x.id w.tour (if key = 0 then .up else .down)).trc =
                ⟨s.trc.recognizers.set k out.1, recalls⟩ ∧
              (s.Queues notice → (q.takeKey k x.id w.tour (if key = 0 then .up else .down)).sli =
                { s.sli with notices := s.sli.notices ++ [⟨q.ap.superframe, notice⟩] })) :
            after recalls notice := by
          refine ⟨_, hv, htrc.trans h.1, fun hqueue => ?_⟩
          rw [noticesOut_queued hqueue (hsli.trans (h.2 hqueue)), hqn]
        refine ⟨fun before old rest hrec hold hnd => gives ?_, fun hnew hlen => gives ?_,
          fun hnew hlen => gives ?_⟩
        · exact takeKey_recallTaken hqt hqs rfl hout
            (takeRecall_restarted (c := ⟨s.trc.recognizers.set k out.1, s.trc.recalls⟩) hpos hrec hold hnd)
        · exact takeKey_recallTaken hqt hqs rfl hout (takeRecall_added hpos hnew hlen)
        · exact takeKey_recallDropped hqt hqs rfl hout (takeRecall_full hpos hnew hlen)

end Sys2Proof.Machine.KeyLaws
end

section
/-! SUPPORT. The retune queue (R77): what an order that meets its handset's order, one that joins and one that meets a
full queue leave. -/

namespace Sys2Proof.Machine.RetuneLaws

section
variable {a : Scheduler} {o : RetuneOrder}

theorem any_sameHandset {q : List RetuneOrder} :
    (q.any fun x => x.id == o.id) = true ↔ o.id ∈ q.map RetuneOrder.id := by
  simp [List.any_eq_true]

/-- An order for the handset of a queued one is written over it. -/
theorem queueRetune_replaces (h : o.id ∈ a.retuneQueue.map RetuneOrder.id) :
    a.queueRetune o =
      { a with retuneQueue := a.retuneQueue.map fun x => if x.id = o.id then o else x } := by
  rw [Scheduler.queueRetune, if_pos (any_sameHandset.2 h)]
  simp only [beq_iff_eq]

/-- An order for another handset joins while there is room. -/
theorem queueRetune_joins (h : o.id ∉ a.retuneQueue.map RetuneOrder.id)
    (hl : a.retuneQueue.length < 8) :
    a.queueRetune o = { a with retuneQueue := a.retuneQueue ++ [o] } := by
  rw [Scheduler.queueRetune, if_neg (mt any_sameHandset.1 h), if_pos hl]

/-- A full queue loses its oldest order to it, counted. -/
theorem queueRetune_drops (h : o.id ∉ a.retuneQueue.map RetuneOrder.id)
    (hl : 8 ≤ a.retuneQueue.length) :
    a.queueRetune o = { a with
      retuneQueue := a.retuneQueue.tail ++ [o], retuneDrops := bump a.retuneDrops } := by
  rw [Scheduler.queueRetune, if_neg (mt any_sameHandset.1 h), if_neg (Nat.not_lt.2 hl), List.drop_one]

end

/-- In a queue with one order a handset, writing an order over its handset's changes that place alone. -/
theorem overwrite_one {o old : RetuneOrder} {before after : List RetuneOrder} (ho : old.id = o.id)
    (hn : ((before ++ old :: after).map RetuneOrder.id).Nodup) :
    ((before ++ old :: after).map fun x => if x.id = o.id then o else x) = before ++ o :: after := by
  rw [List.map_append, List.map_cons, List.nodup_middle, ← List.map_append, List.nodup_cons] at hn
  have hother (x) (hx : x ∈ before ++ after) : ¬x.id = o.id := fun he =>
    hn.1 (ho.trans he.symm ▸ List.mem_map_of_mem hx)
  have hsame (l : List RetuneOrder) (hl : ∀ x ∈ l, x ∈ before ++ after) :
      (l.map fun x => if x.id = o.id then o else x) = l :=
    (List.map_congr_left fun x hx => if_neg (hother x (hl x hx))).trans (List.map_id l)
  rw [List.map_append, List.map_cons, if_pos ho, hsame before fun _ => List.mem_append_left _,
    hsame after fun _ => List.mem_append_right _]

/-- Writing an order over its handset's leaves the handsets of the queue as they are. -/
theorem overwrite_ids (o : RetuneOrder) (q : List RetuneOrder) :
    (q.map fun x => if x.id = o.id then o else x).map RetuneOrder.id = q.map RetuneOrder.id := by
  rw [List.map_map]
  refine List.map_congr_left fun x _ => ?_
  by_cases h : x.id = o.id <;> simp [h]

/-- A handset that joins a queue without it leaves one order a handset. -/
theorem nodup_joined {o : RetuneOrder} {q q' : List RetuneOrder} (hq : q'.Sublist q)
    (hn : (q.map RetuneOrder.id).Nodup) (ho : o.id ∉ q.map RetuneOrder.id) :
    ((q' ++ [o]).map RetuneOrder.id).Nodup := by
  have hsub := hq.map RetuneOrder.id
  rw [List.map_append, List.map_singleton, ← List.concat_eq_append]
  exact (hn.sublist hsub).concat fun h => ho (hsub.subset h)

/-- Settles O36: the three outcomes of an order, and in each the queue keeps its limit and one order a handset. -/
theorem retuneQueueHoldsOnePerHandset : Obligations.RetuneQueueHoldsOnePerHandset := by
  unfold Obligations.RetuneQueueHoldsOnePerHandset
  refine fun a o => ⟨fun before after old hq ho hn => ?_, queueRetune_joins,
    fun oldest rest ho hq hl => ?_, fun hn hl => ?_⟩
  · have hmem : o.id ∈ a.retuneQueue.map RetuneOrder.id := by simp [hq, ho]
    rw [queueRetune_replaces hmem]
    rw [hq] at hn ⊢
    rw [overwrite_one ho hn]
  · rw [queueRetune_drops ho hl, hq, List.tail_cons]
  · by_cases hmem : o.id ∈ a.retuneQueue.map RetuneOrder.id
    · rw [queueRetune_replaces hmem]
      exact ⟨(overwrite_ids o a.retuneQueue).symm ▸ hn, by rwa [List.length_map]⟩
    · rcases Nat.lt_or_ge a.retuneQueue.length 8 with hlt | hge
      · rw [queueRetune_joins hmem hlt]
        exact ⟨nodup_joined (List.Sublist.refl _) hn hmem, by simpa using hlt⟩
      · rw [queueRetune_drops hmem hge]
        refine ⟨nodup_joined (List.tail_sublist _) hn hmem, ?_⟩
        simp only [List.length_append, List.length_tail, List.length_singleton]
        omega

end Sys2Proof.Machine.RetuneLaws
end

section
/-! SUPPORT. Finding a handset in the roster (R86), and what an order leaves once it is answered. -/

namespace Sys2Proof.Machine.RosterLaws

/-- No other roster entry than `e` holds the handset of `x`. -/
def Alone (s : State) (e : Fin 512) (x : RosterEntry) : Prop :=
  ∀ e' x', s.entry e' = some x' → x'.id = x.id → e' = e

/-- The one entry that holds a handset is the one found. -/
theorem findEntry_of_alone {s : State} {e : Fin 512} {x : RosterEntry} (he : s.entry e = some x)
    (ha : Alone s e x) : s.findEntry x.id = some e := by
  rw [State.findEntry, Table.find_eq_some]
  refine ⟨?_, fun e' hlt => ?_⟩
  · have he : s.hrs.entries.get e = some x := he
    simp [he]
  · cases h : s.hrs.entries.get e' with
    | none => rfl
    | some x' => exact beq_false_of_ne fun hid => hlt.ne (ha e' x' h hid)

/-- A handset no entry holds is not found. -/
theorem findEntry_of_absent {s : State} {id : HandsetId}
    (h : ∀ e x, s.entry e = some x → x.id ≠ id) : s.findEntry id = none := by
  rw [State.findEntry, Table.find_eq_none]
  intro e
  cases he : s.hrs.entries.get e with
  | none => rfl
  | some x => exact beq_false_of_ne (h e x he)

theorem lookUp_of_alone {s : State} {e : Fin 512} {x : RosterEntry} (he : s.entry e = some x)
    (ha : Alone s e x) : s.lookUp x.id = some (e, x) := by
  simp [State.lookUp, findEntry_of_alone he ha, he]

theorem transactionOf_of_absent {s : State} {id : HandsetId}
    (h : ∀ i y, s.transaction i = some y → y.id ≠ id) : s.transactionOf id = none := by
  rw [State.transactionOf, Table.find_eq_none]
  intro i
  cases hi : s.ise.transactions.get i with
  | none => rfl
  | some y => exact beq_false_of_ne (h i y hi)

/-- The lowest free slot is the one found (R100). -/
theorem freeSlot_of_lowest {s : State} {k : Fin 16} (hk : s.hrs.slots.get k = .free)
    (hl : ∀ k', k' < k → s.hrs.slots.get k' ≠ .free) : s.freeSlot = some k := by
  rw [State.freeSlot, Table.find_eq_some]
  exact ⟨beq_iff_eq.2 hk, fun k' h => beq_false_of_ne (hl k' h)⟩

/-! ## Behind an order -/

section
variable {s t : State} (h : s.OnlySiteLink t)
include h

theorem ap_of_only : t.ap = s.ap := by rw [h]
theorem sources_of_only : t.sources = s.sources := by rw [h]
theorem ats_of_only : t.ats = s.ats := by rw [h]
theorem hrs_of_only : t.hrs = s.hrs := by rw [h]
theorem trc_of_only : t.trc = s.trc := by rw [h]
theorem rlc_of_only : t.rlc = s.rlc := by rw [h]

end

/-- An answer and the start of a frame change the site link alone. -/
theorem afterOrder_only (s : State) (time : Time) (tag : Byte) (code : AnswerCode) (data : List Byte)
    (f : State → State) :
    (f (s.reachTime time).hearSite).OnlySiteLink (s.afterOrder time tag code data f) :=
  (State.onSli_only _ _).trans (State.startTransmission_only _)

/-- An order's answer goes before every notice, so those on their way out are the same (R169). -/
theorem afterOrder_noticesOut (s : State) (time : Time) (tag : Byte) (code : AnswerCode)
    (data : List Byte) (f : State → State) :
    (s.afterOrder time tag code data f).sli.noticesOut =
      (f (s.reachTime time).hearSite).sli.noticesOut := by
  rw [State.afterOrder]
  generalize f (s.reachTime time).hearSite = u
  unfold State.startTransmission
  split
  · rfl
  · next h =>
    rw [State.onSli_sli] at h
    have h : u.sli.transmitting = none := h
    cases ha : u.sli.answers <;> simp [SiteLink.noticesOut, ha, h]

end Sys2Proof.Machine.RosterLaws
end

section
/-! SUPPORT. ASSIGN, BIND and FORGET (R103 to R105) carried out. -/

namespace Sys2Proof.Machine.RosterLaws

/-- An entry that ASSIGN may place is LOOSE or RECALLED. -/
theorem assignable_of {st : EntryState} (h : st = .loose ∨ st = .recalled) : st.assignable = true := by
  rcases h with rfl | rfl <;> rfl

@[simp] theorem slotChoiceOf_slot (k : Fin 16) :
    slotChoiceOf (BitVec.ofNat 8 k.val) = some (.slot k) := by
  simp [slotChoiceOf]

section
variable {s : State} {e : Fin 512} {x : RosterEntry} (he : s.entry e = some x) (ha : Alone s e x)
include he ha

theorem assignOrder_done {p : Fin 32} (hk : x.kind = .receiver)
    (hst : x.state = .loose ∨ x.state = .recalled) (ho : (s.program p).isOpen = true) :
    assignOrder (idBytes x.id ++ placeBytes p) s =
      ⟨(s.issueEntry e x (.listener p (s.program p).tour)).onAts (Scheduler.queueRetune ⟨x.id, p⟩),
        .done, []⟩ := by
  simp [assignOrder, idBytes, placeBytes, lookUp_of_alone he ha, hk, assignable_of hst, ho, State.done]

/-- BIND takes the slot its choice comes to. -/
theorem bindOrder_done {tour k : Fin 16} {choice : Byte} {c : SlotChoice} (hk : x.kind = .mic)
    (hst : x.state = .loose) (hc : slotChoiceOf choice = some c) (hs : s.chooseSlot c = .ok k) :
    bindOrder (idBytes x.id ++ placeBytes tour ++ [choice]) s =
      ⟨s.issueEntry e x (.speaker tour k), .done, placeBytes k⟩ := by
  simp [bindOrder, idBytes, placeBytes, lookUp_of_alone he ha, hk, hst, hc, hs, State.done]

theorem forgetOrder_done (hd : s.restsOnline x = false)
    (ht : ∀ i y, s.transaction i = some y → y.id ≠ x.id) :
    forgetOrder (idBytes x.id) s = ⟨s.forgetEntry e x, .done, []⟩ := by
  simp [forgetOrder, idBytes, lookUp_of_alone he ha, hd, transactionOf_of_absent ht, State.done]

end

theorem restsOnline_of_offline {s : State} {x : RosterEntry}
    (h : ∀ r b, x.state = .docked r b → (s.rack r).link ≠ .online) : s.restsOnline x = false := by
  unfold State.restsOnline
  split
  · next r b hx => exact decide_eq_false (h r b hx)
  · rfl

/-! ## The entry forgotten (R105) -/

/-- What an entry leaves behind is the listener count, or its slot, source and recognizer (R98, R101). -/
theorem endWork_frame (s : State) (w : Assignment) :
    (s.endWork w).hrs.entries = s.hrs.entries ∧ (s.endWork w).ats = s.ats ∧
      (s.endWork w).ap = s.ap ∧ (s.endWork w).rlc = s.rlc ∧ (s.endWork w).sli = s.sli := by
  cases w <;> exact ⟨rfl, rfl, rfl, rfl, rfl⟩

theorem forgetEntry_of_work {s : State} {x : RosterEntry} {w : Assignment}
    (h : x.state.work = some w) (e : Fin 512) : s.forgetEntry e x =
      ((s.endWork w).onAts (Scheduler.forgetRetune x.id)).setEntry e none := by
  simp only [State.forgetEntry, h]

theorem forgetEntry_of_idle {s : State} {x : RosterEntry} (h : x.state.work = none) (e : Fin 512) :
    s.forgetEntry e x = (s.onAts (Scheduler.forgetRetune x.id)).setEntry e none := by
  simp only [State.forgetEntry, h]

/-- The entry and its retune order go; the air port, the rack side and the site link stand. -/
theorem forgetEntry_frame (s : State) (e : Fin 512) (x : RosterEntry) :
    (s.forgetEntry e x).hrs.entries = s.hrs.entries.set e none ∧
      (s.forgetEntry e x).ats = s.ats.forgetRetune x.id ∧ (s.forgetEntry e x).ap = s.ap ∧
      (s.forgetEntry e x).rlc = s.rlc ∧ (s.forgetEntry e x).sli = s.sli := by
  cases hw : x.state.work with
  | none =>
    rw [forgetEntry_of_idle hw]
    exact ⟨rfl, rfl, rfl, rfl, rfl⟩
  | some w =>
    obtain ⟨hentries, hats, hap, hrlc, hsli⟩ := endWork_frame s w
    rw [forgetEntry_of_work hw]
    simp [hentries, hats, hap, hrlc, hsli]

section
variable {s : State} {x : RosterEntry}

/-- A receiver leaves its place in the listener count (R98). -/
theorem forgetEntry_listener {p : Fin 32} {tour : Fin 16} (h : x.state.work = some (.listener p tour))
    (e : Fin 512) : (s.forgetEntry e x).hrs.listeners = s.hrs.listeners.modify p (· - 1) ∧
      (s.forgetEntry e x).hrs.slots = s.hrs.slots := by
  rw [forgetEntry_of_work h]
  exact ⟨rfl, rfl⟩

/-- A microphone leaves its slot, and mic source and recognizer of the slot are reset (R26, R101, R116). -/
theorem forgetEntry_speaker {tour k : Fin 16} (h : x.state.work = some (.speaker tour k))
    (e : Fin 512) : (s.forgetEntry e x).hrs.slots = s.hrs.slots.set k .free ∧
      (s.forgetEntry e x).hrs.listeners = s.hrs.listeners ∧
      (s.forgetEntry e x).trc.recognizers = s.trc.recognizers.set k .reset ∧
      (s.forgetEntry e x).source (micSource k) = (s.source (micSource k)).unbind := by
  rw [forgetEntry_of_work h]
  exact ⟨rfl, rfl, rfl, Table.get_modify_same _ _ _⟩

theorem forgetEntry_idle (h : x.state.work = none) (e : Fin 512) :
    (s.forgetEntry e x).hrs.listeners = s.hrs.listeners ∧
      (s.forgetEntry e x).hrs.slots = s.hrs.slots ∧ (s.forgetEntry e x).trc = s.trc ∧
      (s.forgetEntry e x).sources = s.sources := by
  rw [forgetEntry_of_idle h]
  exact ⟨rfl, rfl, rfl, rfl⟩

end

/-- Settles O56: each order finds the one entry of its handset, and its effect is the one its rule writes. -/
theorem rosterOrdersMoveEntries : Obligations.RosterOrdersMoveEntries := by
  unfold Obligations.RosterOrdersMoveEntries
  intro s time tag e x hs he ha
  refine ⟨fun p hk hst ho => ?_, fun tour k hk hst hfree => ?_, fun hd ht => ?_⟩
  · exact orderCommand_taken hs (Nat.le_of_ble_eq_true rfl)
      (assignOrder_done (s := (s.reachTime time).hearSite) he ha hk hst ho)
  · intro bound
    have binds {choice : Byte} {c : SlotChoice} (hc : slotChoiceOf choice = some c)
        (hslot : (s.reachTime time).hearSite.chooseSlot c = .ok k) :
        exec (.bind time tag (idBytes x.id ++ placeBytes tour ++ [choice])) s = bound :=
      orderCommand_taken hs (Nat.le_of_ble_eq_true rfl)
        (bindOrder_done (s := (s.reachTime time).hearSite) he ha hk hst hc hslot)
    refine ⟨binds (slotChoiceOf_slot k) (if_pos hfree), fun hl => binds (c := .any) (by decide) ?_⟩
    simp only [State.chooseSlot, freeSlot_of_lowest (s := (s.reachTime time).hearSite) hfree hl]
  · let u := (s.reachTime time).hearSite
    have htaken : exec (.forget time tag (idBytes x.id)) s =
        .next (s.afterOrder time tag .done [] fun u => u.forgetEntry e x) :=
      orderCommand_taken hs (Nat.le_of_ble_eq_true rfl)
        (forgetOrder_done (s := u) he ha (restsOnline_of_offline hd) ht)
    have honly := afterOrder_only s time tag .done [] fun u => u.forgetEntry e x
    have hnotices := afterOrder_noticesOut s time tag .done [] fun u => u.forgetEntry e x
    have hanswers := s.afterOrder_answersOut time tag .done [] fun u => u.forgetEntry e x
    refine ⟨_, htaken, ?_⟩
    generalize s.afterOrder time tag .done [] (fun u => u.forgetEntry e x) = t at *
    obtain ⟨hentries, hats, hap, hrlc, hsli⟩ := forgetEntry_frame u e x
    rw [hsli] at hnotices hanswers
    have hhrs := hrs_of_only honly
    have htrc := trc_of_only honly
    have hsources := sources_of_only honly
    have hentry (e') : t.entry e' = (s.hrs.entries.set e none).get e' := by
      rw [State.entry, hhrs, hentries]
      rfl
    refine ⟨by rw [hentry, Table.get_set_same], fun e' hne => ?_, ?_, fun p tour hw => ?_,
      fun tour k hw => ?_, fun hw => ?_, hnotices, hanswers, (ap_of_only honly).trans hap,
      (rlc_of_only honly).trans hrlc⟩
    · rw [hentry, Table.get_set_other _ _ hne.symm]
      rfl
    · rw [ats_of_only honly, hats]
      rfl
    · rw [hhrs]
      exact forgetEntry_listener hw e
    · obtain ⟨hslots, hlisteners, hrec, hsource⟩ := forgetEntry_speaker (s := u) hw e
      rw [hhrs, htrc]
      refine ⟨hslots, hlisteners, hrec, fun src hsrc => ?_⟩
      obtain rfl : src = micSource k := Fin.ext hsrc
      rw [State.source, hsources, ← State.source, hsource]
      exact ⟨rfl, rfl, rfl⟩
    · rw [hhrs, htrc, hsources]
      exact forgetEntry_idle hw e

end Sys2Proof.Machine.RosterLaws
end

section
/-! SUPPORT. What handing SLI notices does (R173, R174), each outcome said once, for one notice and for a list. -/

namespace Sys2Proof.Machine.NoticeLaws

/-- The site link beside a full notice queue that has dropped `k` notices: NOTICES LOST is raised, its notice due once
while its kind is UNMASKED (R174). -/
def losing (k : Nat) (l : SiteLink) : SiteLink :=
  { l with
    noticesDropped := bumpBy k l.noticesDropped
    noticesLost := l.noticesLost || decide (k ≠ 0)
    noticesLostDue := l.noticesLostDue || (decide (k ≠ 0) && !l.noticesLost && !l.mask.get 22) }

theorem losing_zero (l : SiteLink) : losing 0 l = l := by simp [losing, bumpBy_zero]

theorem losing_one (l : SiteLink) : losing 1 l = { l with
    noticesDropped := bump l.noticesDropped
    noticesLost := true
    noticesLostDue := l.noticesLostDue || (!l.noticesLost && !l.mask.get 22) } := by
  have h : bumpBy 1 l.noticesDropped = bump l.noticesDropped := by
    rw [← bump_bumpBy, bumpBy_zero]
  simp [losing, h]

/-- After `k` notices lost one more is only counted, if `k` is not 0. -/
theorem losing_one_losing (k : Nat) (l : SiteLink) : losing k (losing 1 l) = losing (k + 1) l := by
  have h (c : Nat) : bumpBy k (bumpBy 1 c) = bumpBy (k + 1) c := by
    unfold bumpBy; split <;> split <;> (try split) <;> omega
  simp [losing, h]

section
variable {s : State} {n : Superframe} {x : Notice}

theorem sendNoticeAt_masked (h : s.masked x = true) : s.sendNoticeAt n x = s := by
  simp [State.sendNoticeAt, h]

theorem sendNoticeAt_joins (h : s.masked x = false) (hl : s.sli.notices.length < 16) :
    s.sendNoticeAt n x = s.onSli fun l => { l with notices := l.notices ++ [⟨n, x⟩] } := by
  simp [State.sendNoticeAt, State.queueNotice, h, hl]

theorem sendNoticeAt_lost (h : s.masked x = false) (hl : 16 ≤ s.sli.notices.length) :
    s.sendNoticeAt n x = s.onSli (losing 1) := by
  have hcount : s.onSli (losing 1) =
      (s.onSli fun l => { l with noticesDropped := bump l.noticesDropped }).raiseNoticesLost := by
    simp only [State.raiseNoticesLost, State.onSli, losing_one, State.masked, Notice.maskEntry]
    by_cases hlost : s.sli.noticesLost = true <;> simp [hlost]
  rw [hcount]
  simp [State.sendNoticeAt, State.queueNotice, h, Nat.not_lt.2 hl]

end

/-- UNMASKED notices that find room join in their order. -/
theorem foldl_sendNotice_joins {xs : List Notice} {s : State} (h : ∀ x ∈ xs, s.masked x = false)
    (hl : s.sli.notices.length + xs.length ≤ 16) : xs.foldl State.sendNotice s =
      s.onSli fun l => { l with notices := l.notices ++ xs.map fun x => ⟨s.ap.superframe, x⟩ } := by
  induction xs generalizing s with
  | nil => simp [State.onSli]
  | cons x xs ih =>
    simp only [List.length_cons] at hl
    have hjoin := sendNoticeAt_joins (n := s.ap.superframe) (h x List.mem_cons_self) (by omega)
    rw [List.foldl_cons, State.sendNotice, hjoin, ih]
    · simp [State.onSli]
    · exact fun y hy => h y (List.mem_cons_of_mem x hy)
    · simp only [State.onSli_sli, List.length_append, List.length_singleton]
      omega

/-- UNMASKED notices beside a full queue are lost. -/
theorem foldl_sendNotice_lost {xs : List Notice} {s : State} (h : ∀ x ∈ xs, s.masked x = false)
    (hl : xs = [] ∨ 16 ≤ s.sli.notices.length) :
    xs.foldl State.sendNotice s = s.onSli (losing xs.length) := by
  induction xs generalizing s with
  | nil => simp [State.onSli, losing_zero]
  | cons x xs ih =>
    have hfull : 16 ≤ s.sli.notices.length := hl.resolve_left (by simp)
    have hlost := sendNoticeAt_lost (n := s.ap.superframe) (h x List.mem_cons_self) hfull
    rw [List.foldl_cons, State.sendNotice, hlost, ih]
    · simp only [State.onSli, losing_one_losing, List.length_cons]
    · exact fun y hy => h y (List.mem_cons_of_mem x hy)
    · exact .inr hfull

end Sys2Proof.Machine.NoticeLaws
end

section
/-! SUPPORT. SET FILTER, VALIDATE FILTER, SET TIMING and MASK (R96, R172, R175), and the expiry of a miss countdown. -/

namespace Sys2Proof.Machine.SettingLaws

open NoticeLaws

/-! ## The mask (R175) -/

/-- The places of a table whose content passes, in ascending number. -/
theorem places_eq_filter {n : Nat} {α : Type} (t : Table n α) (p : α → Bool) :
    t.places p = (List.finRange n).filter fun i => p (t.get i) := by
  have hrows : t.rows = (List.finRange n).map t.get := by
    apply List.ext_getElem (by simp [t.size_eq])
    intro i h1 h2
    simp [Table.get]
  rw [Table.places, hrows]
  induction List.finRange n with
  | nil => rfl
  | cons i rest ih =>
    rw [List.map_cons, List.zip_cons_cons, List.filterMap_cons, List.filter_cons, ih]
    by_cases hp : p (t.get i) = true <;> simp [hp]

theorem tableBytes_flags {n : Nat} (t : Table n Bool) :
    tableBytes flagBytes t = t.rows.map fun b => if b then 1 else 0 :=
  List.map_eq_flatMap.symm

/-- The mask written is the mask read. -/
theorem maskOf_tableBytes (m : Table 23 Bool) : maskOf (tableBytes flagBytes m) = some m := by
  have hflags : (tableBytes flagBytes m).all (fun b => (flagOf b).isSome) = true := by
    simp only [tableBytes_flags, List.all_map, List.all_eq_true, Function.comp_apply, flagOf_bytes,
      Option.isSome_some, implies_true]
  rw [maskOf, if_pos hflags]
  congr 1
  ext i
  have hi : i.val < m.rows.length := by rw [m.size_eq]; exact i.isLt
  rw [Table.get_build, tableBytes_flags, byteAt]
  simp only [List.getD_eq_getElem?_getD, List.getElem?_map, List.getElem?_eq_getElem hi,
    Option.map_some, Option.getD_some, Table.get, List.get_eq_getElem, Fin.val_cast]
  cases m.rows[i.val] <;> decide

/-- A raised condition's notice is of the condition's kind. -/
theorem maskEntry_of_raised {s : State} {k : Fin 23} {x : Notice} (h : x ∈ s.raisedNotices k) :
    x.maskEntry = k := by
  unfold State.raisedNotices at h
  split_ifs at h with h18 hs h19 ha h20 h21
  · rw [List.mem_singleton.1 h, h18]; rfl
  · simp at h
  · rw [List.mem_singleton.1 h, h19]; rfl
  · simp at h
  · obtain ⟨r, -, rfl⟩ := List.mem_map.1 h
    exact h20.symm
  · obtain ⟨r, -, rfl⟩ := List.mem_map.1 h
    exact h21.symm
  · simp at h

/-- The notices of the raised conditions that the change from mask `old` to mask `new` unmasks, in the order of the
table of R174, racks ascending. -/
def unmaskedRaised (s : State) (old new : Table 23 Bool) : List Notice :=
  (unmaskedConditions old new).flatMap s.raisedNotices

/-- None of them is of a kind that is MASKED now. -/
theorem unmaskedRaised_unmasked {s : State} {old new : Table 23 Bool} {x : Notice}
    (h : x ∈ unmaskedRaised s old new) : new.get x.maskEntry = false := by
  obtain ⟨k, hk, hx⟩ := List.mem_flatMap.1 h
  obtain ⟨-, hk⟩ := List.mem_filter.1 hk
  rw [maskEntry_of_raised hx]
  simp only [Bool.and_eq_true, Bool.not_eq_true'] at hk
  exact hk.2

/-- Mask `new` unmasks entry `k` of mask `old`. -/
def unmasks (old new : Table 23 Bool) (k : Fin 23) : Bool := old.get k && !new.get k

/-- The list, kind by kind. -/
theorem unmaskedRaised_eq (s : State) (old new : Table 23 Bool) : unmaskedRaised s old new =
    (if unmasks old new 18 && s.sli.syncLost then [.syncLost] else []) ++
      (if unmasks old new 19 && s.sli.airDegraded then [.airDegraded] else []) ++
      (if unmasks old new 20 then
        ((List.finRange 8).filter s.sli.rackOffline.get).map .rackOffline else []) ++
      (if unmasks old new 21 then
        ((List.finRange 8).filter s.sli.rackHot.get).map .rackHot else []) := by
  have hkind (p : Fin 23 → Bool) (f : Fin 23 → List Notice) : ([18, 19, 20, 21].filter p).flatMap f =
      (if p 18 then f 18 else []) ++ (if p 19 then f 19 else []) ++ (if p 20 then f 20 else []) ++
        (if p 21 then f 21 else []) := by
    simp only [List.filter_cons, List.filter_nil]
    split_ifs <;> simp
  have hflag (a b : Bool) (x : List Notice) :
      (if a && b then x else []) = if a then (if b then x else []) else [] := by
    cases a <;> rfl
  rw [unmaskedRaised, hflag, hflag]
  refine (hkind (unmasks old new) s.raisedNotices).trans ?_
  simp only [State.raisedNotices, places_eq_filter]
  rfl

/-- The site link with mask `m`: a due NOTICES LOST notice is gone where its kind is MASKED, and due where the kind is
unmasked with the flag raised (R174, R175). -/
def remasked (m : Table 23 Bool) (l : SiteLink) : SiteLink :=
  { l with
    mask := m
    noticesLostDue := if m.get 22 then false else l.noticesLostDue || (l.mask.get 22 && l.noticesLost) }

/-- A new mask sends the notices of the raised conditions it unmasks: `fit` find room, `lost` do not. -/
theorem replaceMask_sends {s : State} {m : Table 23 Bool} {fit lost : List Notice}
    (h : unmaskedRaised s s.sli.mask m = fit ++ lost)
    (hfit : s.sli.notices.length + fit.length ≤ 16)
    (hlost : lost = [] ∨ s.sli.notices.length + fit.length = 16) :
    s.replaceMask m = s.onSli fun l => losing lost.length { remasked m l with
      notices := l.notices ++ fit.map fun x => ⟨s.ap.superframe, x⟩ } := by
  have hunmasked (x) (hx : x ∈ fit ++ lost) : m.get x.maskEntry = false :=
    unmaskedRaised_unmasked (h ▸ hx)
  have hsends : s.replaceMask m = (fit ++ lost).foldl State.sendNotice (s.onSli (remasked m)) :=
    congrArg (List.foldl State.sendNotice (s.onSli (remasked m))) h
  rw [hsends, List.foldl_append, foldl_sendNotice_joins (xs := fit),
    foldl_sendNotice_lost (xs := lost)]
  · rfl
  · exact fun x hx => hunmasked x (List.mem_append_right _ hx)
  · refine hlost.imp_right fun hl => ?_
    simp only [State.onSli_sli, remasked, List.length_append, List.length_map]
    omega
  · exact fun x hx => hunmasked x (List.mem_append_left _ hx)
  · exact hfit

/-- The due mark is down where NOTICES LOST is MASKED, and otherwise up where it was, where the mask brings it, or where
a notice is lost with the flag down. -/
theorem losing_remasked (m : Table 23 Bool) (l : SiteLink) (lost : List Notice)
    (notices : List NoticeFrame) :
    losing lost.length { remasked m l with notices := notices } = { l with
      mask := m
      notices := notices
      noticesDropped := bumpBy lost.length l.noticesDropped
      noticesLost := l.noticesLost || decide (lost ≠ [])
      noticesLostDue := !m.get 22 && (l.noticesLostDue ||
        (unmasks l.mask m 22 && l.noticesLost) || (decide (lost ≠ []) && !l.noticesLost)) } := by
  have hlost : decide (lost.length ≠ 0) = decide (lost ≠ []) := by simp
  simp only [losing, remasked, unmasks, hlost]
  cases m.get 22 <;> simp

/-! ## The order bodies -/

theorem filterKind_code (k : FilterKind) : ∃ b, k.code = [b] ∧ filterKindOf b = some k := by
  cases k with
  | any => exact ⟨0, rfl, rfl⟩
  | receiver => exact ⟨1, rfl, rfl⟩
  | mic => exact ⟨2, rfl, rfl⟩

theorem setFilterOrder_done (e : Fin 8) (f : FilterEntry) (s : State) :
    setFilterOrder (placeBytes e ++ flagBytes f.used ++ idBytes f.pattern ++ idBytes f.mask ++
        f.kind.code) s =
      ⟨s.onHrs fun h => { h with filter := h.filter.set e f, filterValid := false }, .done, []⟩ := by
  obtain ⟨b, hb, hk⟩ := filterKind_code f.kind
  have he : placeOf 8 (BitVec.ofNat 8 e.val) = some e := placeOf_ofNat e (by decide)
  simp only [setFilterOrder, placeBytes, flagBytes, idBytes, hb, List.cons_append, List.nil_append,
    hk, he, flagOf_bytes, word24_bytes, State.done]

theorem setTimingOrder_stored {r w m : Nat} (hr : r < 65536) (hw : w < 65536) (hm : m < 65536)
    (auto : Bool) (s : State) :
    setTimingOrder (wideBytes r ++ wideBytes w ++ wideBytes m ++ flagBytes auto) s =
      ⟨(s.onAts fun t => { t with
          releaseDelay := min 255 r, longWaitLimit := max 10 (min 6000 w) }).onHrs fun h => { h with
          missTimeout := max 100 (min 60000 m), autoEnrol := auto },
        if r ≤ 255 ∧ 10 ≤ w ∧ w ≤ 6000 ∧ 100 ≤ m ∧ m ≤ 60000 then .done else .doneClamped, []⟩ := by
  have hcode : ((clampNat 0 255 r).2 || (clampNat 10 6000 w).2 || (clampNat 100 60000 m).2) = true ↔
      ¬(r ≤ 255 ∧ 10 ≤ w ∧ w ≤ 6000 ∧ 100 ≤ m ∧ m ≤ 60000) := by
    simp only [clampNat, Bool.or_eq_true, decide_eq_true_eq]
    omega
  simp only [setTimingOrder, wideBytes, wordBytes, flagBytes, List.cons_append, List.nil_append,
    flagOf_bytes, quantity_bytes, BitVec.toNat_ofNat, Nat.reducePow, Nat.mod_eq_of_lt hr,
    Nat.mod_eq_of_lt hw, Nat.mod_eq_of_lt hm, State.stored, hcode, ite_not]
  simp only [clampNat, Nat.zero_max]

theorem maskOrder_done (m : Table 23 Bool) (s : State) :
    maskOrder (tableBytes flagBytes m) s = ⟨s.replaceMask m, .done, []⟩ := by
  have hlen : (tableBytes flagBytes m).length = 23 := by
    simp [tableBytes_flags, m.size_eq]
  simp [maskOrder, hlen, maskOf_tableBytes, State.done]

/-! ## The expiry of a miss countdown (R89) -/

/-- The entry becomes MISSING, and its notice is headed by the last heard superframe number. -/
theorem expireMiss_due {s : State} {e : Fin 512} {x : RosterEntry} {w : Assignment}
    (he : s.entry e = some x) (hx : x.state = .issued w 0) : s.expireMiss e =
      (s.setEntry e (some { x with state := .missing w })).sendNoticeAt
        (x.lastHeard.getD s.ap.superframe) (.missing x.id x.kind w x.battery) := by
  simp [State.expireMiss, he, hx]

/-- Settles O54: each order's bytes are read as what they were written from; a new mask's notices join or are lost
one by one; a notice handed over has its three outcomes. -/
theorem settingsMaskAndNotices : Obligations.SettingsMaskAndNotices := by
  unfold Obligations.SettingsMaskAndNotices
  refine ⟨fun s time tag e f hs => ?_, fun s time tag hs => ?_,
    fun s time tag r w m auto hs hr hw hm => ?_, ?_,
    fun s n x => ⟨sendNoticeAt_masked, sendNoticeAt_joins, fun hm hl => ?_⟩, ?_⟩
  · obtain ⟨b, hb, -⟩ := filterKind_code f.kind
    exact orderCommand_taken hs (by rw [hb]; exact Nat.le_of_ble_eq_true rfl)
      (setFilterOrder_done e f _)
  · exact orderCommand_taken hs (Nat.le_of_ble_eq_true rfl) rfl
  · exact orderCommand_taken hs (Nat.le_of_ble_eq_true rfl) (setTimingOrder_stored hr hw hm auto _)
  · intro s time tag m fit lost hs opens h hfit hlost
    refine orderCommand_taken hs (by simp [tableBytes_flags, m.size_eq]) ?_
    rw [maskOrder_done, replaceMask_sends (s := (s.reachTime time).hearSite)
      ((unmaskedRaised_eq _ _ _).trans h) hfit hlost]
    simp only [State.onSli, losing_remasked]
    rfl
  · rw [sendNoticeAt_lost hm hl, State.onSli, losing_one]
  · intro s e x w hr he hx gone
    have hexec : exec (.missCountdownExpiry e) s = .next (gone.sendNoticeAt
        (x.lastHeard.getD s.ap.superframe) (.missing x.id x.kind w x.battery)).startTransmission := by
      refine (complete_running hr _).trans ?_
      rw [expireMiss_due he hx]
      rfl
    have hmask : gone.masked (.missing x.id x.kind w x.battery) = s.sli.mask.get 14 := rfl
    rw [hexec, ← hmask]
    refine ⟨fun hm => ?_, fun hm hl => ?_, fun hm hl => ?_⟩
    · rw [sendNoticeAt_masked hm]
    · rw [sendNoticeAt_joins hm hl]
      rfl
    · rw [sendNoticeAt_lost hm hl, State.onSli, losing_one]

end Sys2Proof.Machine.SettingLaws
end

section
/-! SUPPORT. An in-time report slot arrival (R7, R8, R92): its bytes read, and the sorting of a GOOD report. -/

namespace Sys2Proof.Machine.ReportLaws

open RosterLaws

/-! ## The arrival -/

theorem arrivalOf_report (j : Fin 4) (status : Byte) (n : Superframe) (content : List Byte) :
    arrivalOf ([.ofNat 8 (16 + j.val), status] ++ wordBytes n ++ content) =
      some (.report j n (reportArrivalOf status content)) := by
  have hmic : placeOf 16 (BitVec.ofNat 8 (16 + j.val)) = none := by revert j; decide
  have hreport : placeOf 4 (BitVec.ofNat 8 (16 + j.val) - 0x10) = some j := by revert j; decide
  simp only [wordBytes, List.cons_append, List.nil_append, arrivalOf, hmic, hreport, word16_bytes]

/-- The mark of report slot `j` for the running superframe is set (R8). -/
def marking (s : State) (j : Fin 4) : State :=
  s.onAp fun a => { a with reportMarks := a.reportMarks.set j (some a.superframe) }

/-- An in-time arrival for a report slot marks its slot and reaches HRS (R7, R8, R92). -/
theorem exec_reportArrival {s : State} {j : Fin 4} (hr : s.resetHeld = false)
    (ha : s.ap.onAir = true) (hm : s.ap.reportMarks.get j ≠ some s.ap.superframe) (status : Byte)
    (content : List Byte) :
    exec (.uplinkArrival ([.ofNat 8 (16 + j.val), status] ++ wordBytes s.ap.superframe ++ content)) s =
      .next ((marking s j).takeReportArrival (reportArrivalOf status content)).startTransmission := by
  refine (complete_running hr _).trans ?_
  simp only [ha, if_true, arrivalOf_report, State.takePresence, ne_eq, not_true_eq_false, if_false, hm]
  rfl

/-- What the content of a GOOD report is read as. -/
def reportRead (id : HandsetId) (kind program battery quality : Byte) : PresenceReport :=
  ⟨id, kindOf kind, placeOf 32 program, min 100 battery.toNat, min 15 quality.toNat⟩

theorem reportArrivalOf_good (id : HandsetId) (kind program battery quality : Byte) :
    reportArrivalOf 0 (idBytes id ++ [kind, program, battery, quality]) =
      .good (reportRead id kind program battery quality) := by
  simp [reportArrivalOf, idBytes, presenceReportOf, reportRead, batteryOf, min_comm]

/-! ## The kind byte -/

theorem kindOf_code (k : HandsetKind) : kindOf (if k = .receiver then 0 else 1) = some k := by
  cases k <;> decide

theorem kindOf_invalid {b : Byte} (h : 1 < b.toNat) : kindOf b = none := by
  have h0 : b ≠ 0 := by rintro rfl; exact absurd h (by decide)
  have h1 : b ≠ 1 := by rintro rfl; exact absurd h (by decide)
  rw [kindOf, if_neg h0, if_neg h1]

/-- A byte that is a code is the code of one kind. -/
theorem kindOf_valid {b : Byte} (h : b.toNat ≤ 1) :
    ∃ k : HandsetKind, kindOf b = some k ∧ b = if k = .receiver then 0 else 1 := by
  have hb : b = 0 ∨ b = 1 := by bv_omega
  rcases hb with rfl | rfl
  · exact ⟨.receiver, by decide, rfl⟩
  · exact ⟨.mic, by decide, rfl⟩

/-! ## A report sorted (R92) -/

/-- No expiry of the entry waits to be taken. -/
theorem takeMissDue_of_running {s : State} {e : Fin 512} {x : RosterEntry} (he : s.entry e = some x)
    (hx : ∀ w, x.state ≠ .issued w 0) : s.takeMissDue e = s := by
  have hdue : x.missDue = false := by
    unfold RosterEntry.missDue
    split
    · next w c hc => exact beq_false_of_ne fun h0 => hx w (h0 ▸ hc)
    · rfl
  simp [State.takeMissDue, he, hdue]

section
variable {s : State} {n : Superframe} {r : PresenceReport}

theorem takeReport_malformed (h : r.id = 0 ∨ r.kind = none) : s.takeReport n r =
    s.onHrs fun h => { h with reportErrors := bump h.reportErrors } := by
  rcases h with h | h
  · cases hk : r.kind <;> simp [State.takeReport, h, hk]
  · simp [State.takeReport, h]

variable {k : HandsetKind} (hk : r.kind = some k) (hid : r.id ≠ 0)
include hk hid

theorem takeReport_stranger (h : ∀ e x, s.entry e = some x → x.id ≠ r.id) :
    s.takeReport n r = s.takeStranger n k r := by
  simp only [State.takeReport, hk, if_neg hid, findEntry_of_absent h]

variable {e : Fin 512} {x : RosterEntry} (he : s.entry e = some x) (ha : Alone s e x)
  (hx : x.id = r.id) (hdue : ∀ w, x.state ≠ .issued w 0)
include he ha hx hdue

theorem takeReport_known : s.takeReport n r = s.takeRosterReport n e x k r := by
  have hfind : s.findEntry r.id = some e := hx ▸ findEntry_of_alone he ha
  simp only [State.takeReport, hk, if_neg hid, hfind, takeMissDue_of_running he hdue, he]

end

section
variable {s : State} {n : Superframe} {r : PresenceReport} {k : HandsetKind} {e : Fin 512}
  {x : RosterEntry}

theorem takeRosterReport_mismatch (h : k ≠ x.kind) : s.takeRosterReport n e x k r =
    s.onHrs fun h => { h with kindMismatches := bump h.kindMismatches } := by
  simp [State.takeRosterReport, h]

theorem takeRosterReport_docked {rack : Fin 8} {b : Fin 24} (h : k = x.kind)
    (hx : x.state = .docked rack b) : s.takeRosterReport n e x k r =
      s.onHrs fun h => { h with dockedReports := bump h.dockedReports } := by
  simp [State.takeRosterReport, h, hx]

theorem takeRosterReport_heard (h : k = x.kind) (hx : ∀ rack b, x.state ≠ .docked rack b) :
    s.takeRosterReport n e x k r =
      (s.hearEntry e x n r.battery (some r.quality)).switchLanguage e r.program := by
  rw [State.takeRosterReport, if_neg (not_not.2 h)]
  split
  · next rack b hd => exact absurd hd (hx rack b)
  · rfl

end

end Sys2Proof.Machine.ReportLaws
end

section
/-! SUPPORT. A handset heard from (R89 to R91, R93) and its language (R94). -/

namespace Sys2Proof.Machine.ReportLaws

open NoticeLaws RosterLaws

/-- The entry of a handset once it is heard from (R89 to R91, R93). -/
def heardEntry (timeout : Nat) (n : Superframe) (battery : Nat) (quality : Option Nat)
    (x : RosterEntry) : RosterEntry :=
  { x with
    state := x.state.heard timeout
    battery := battery
    lowBattery := x.lowBattery || x.batteryLow battery
    lastHeard := some n
    lastQuality := quality <|> x.lastQuality }

/-- The FOUND notice of a MISSING handset, and its kind of notice alone. -/
def foundNotices (battery : Nat) (quality : Option Nat) (x : RosterEntry) : List Notice :=
  match x.state with
  | .missing w => [.found x.id x.kind w battery quality]
  | _ => []

/-- The LOW BATTERY notice where the latch is set now (R91). -/
def lowNotices (timeout battery : Nat) (x : RosterEntry) : List Notice :=
  if x.batteryLow battery then
    [.lowBattery x.id x.kind battery (x.state.heard timeout).name (x.state.heard timeout).work]
  else []

/-- Hearing from a handset writes its entry, then sends FOUND before LOW BATTERY. -/
theorem hearEntry_eq (s : State) (e : Fin 512) (x : RosterEntry) (battery : Nat)
    (quality : Option Nat) : s.hearEntry e x s.ap.superframe battery quality =
      (foundNotices battery quality x ++ lowNotices s.hrs.missTimeout battery x).foldl State.sendNotice
        (s.setEntry e (some
          (heardEntry s.hrs.missTimeout s.ap.superframe battery quality x))) := by
  rw [State.hearEntry, List.foldl_append]
  cases hst : x.state <;> by_cases hlow : x.batteryLow battery = true <;>
    simp [lowNotices, foundNotices, heardEntry, hst, hlow, State.sendNotice]

theorem foldl_sendNotice_only (xs : List Notice) (s : State) :
    s.OnlySiteLink (xs.foldl State.sendNotice s) := by
  induction xs generalizing s with
  | nil => exact .refl s
  | cons x xs ih => exact (s.sendNotice_only x).trans (ih _)

/-! ## Language switching (R94) -/

section
variable {s : State} {e : Fin 512} {x : RosterEntry} {reported : Option (Fin 32)}
  (he : s.entry e = some x)
include he

/-- Only an ISSUED receiver's program is read. -/
theorem switchLanguage_unread (h : x.kind = .receiver → ∀ w c, x.state ≠ .issued w c) :
    s.switchLanguage e reported = s := by
  simp only [State.switchLanguage, he]
  split
  · next hk hst => exact absurd hst (h hk _ _)
  · rfl

variable {p : Fin 32} {tour : Fin 16} {c : Nat} (hk : x.kind = .receiver)
  (hst : x.state = .issued (.listener p tour) c)
include hk hst

theorem switchLanguage_same (h : reported = some p) : s.switchLanguage e reported = s := by
  simp [State.switchLanguage, he, hk, hst, h]

theorem switchLanguage_follows {q : Fin 32} (h : reported = some q) (hqp : q ≠ p)
    (ho : (s.program q).isOpen = true) (ht : (s.program q).tour = tour) :
    s.switchLanguage e reported =
      ((s.setEntry e (some { x with state := .issued (.listener q tour) c })).onListeners p
        (· - 1)).onListeners q (· + 1) := by
  simp [State.switchLanguage, he, hk, hst, h, hqp, ho, ht]

theorem switchLanguage_undoes (h : reported = none ∨ ∃ q, reported = some q ∧ q ≠ p ∧
      ((s.program q).isOpen = false ∨ (s.program q).tour ≠ tour)) :
    s.switchLanguage e reported = s.onAts (Scheduler.queueRetune ⟨x.id, p⟩) := by
  rcases h with rfl | ⟨q, rfl, hqp, ho | ht⟩
  · simp [State.switchLanguage, he, hk, hst]
  · simp [State.switchLanguage, he, hk, hst, hqp, ho]
  · simp [State.switchLanguage, he, hk, hst, hqp, ht]

end

end Sys2Proof.Machine.ReportLaws
end

section
/-! SUPPORT. What a report of a handset of the roster that is not DOCKED leaves (R89 to R94): its entry, its notices,
and the rest of the state. -/

namespace Sys2Proof.Machine.ReportLaws

open NoticeLaws RosterLaws

section
variable {w : Assignment} {timeout : Nat}

theorem heard_of_work : {st : EntryState} → st.work = some w → st.heard timeout = .issued w timeout
  | .issued _ _, rfl => rfl
  | .missing _, rfl => rfl

theorem heard_of_idle : {st : EntryState} → st.work = none → st.heard timeout = st
  | .docked _ _, _ => rfl
  | .recalled, _ => rfl
  | .loose, _ => rfl

variable {x : RosterEntry} {battery : Nat}

/-- The latch is set for a handset that is out, below 10, with the latch clear (R91). -/
theorem batteryLow_iff : x.batteryLow battery = true ↔
    x.state.work.isSome = true ∧ battery < 10 ∧ x.lowBattery = false := by
  simp [RosterEntry.batteryLow, EntryState.isOut, and_assoc]

theorem lowNotices_warns (hw : x.state.work = some w) (h : battery < 10 ∧ x.lowBattery = false) :
    lowNotices timeout battery x = [.lowBattery x.id x.kind battery .issued (some w)] := by
  rw [lowNotices, if_pos (batteryLow_iff.2 ⟨by simp [hw], h⟩), heard_of_work hw]
  rfl

theorem lowNotices_quiet (h : ¬(battery < 10 ∧ x.lowBattery = false)) :
    lowNotices timeout battery x = [] :=
  if_neg fun hlow => h (batteryLow_iff.1 hlow).2

theorem foundNotices_missing {quality : Option Nat} (h : x.state = .missing w) :
    foundNotices battery quality x = [.found x.id x.kind w battery quality] := by
  simp [foundNotices, h]

theorem foundNotices_issued {quality : Option Nat} {c : Nat} (h : x.state = .issued w c) :
    foundNotices battery quality x = [] := by
  simp [foundNotices, h]

/-- A handset that is out is ISSUED once heard from. -/
theorem heardEntry_out (hw : x.state.work = some w) (n : Superframe) (quality : Nat) :
    heardEntry timeout n battery (some quality) x = { x with
      state := .issued w timeout
      battery := battery
      lowBattery := x.lowBattery || decide (battery < 10)
      lastHeard := some n
      lastQuality := some quality } := by
  have hlow : (x.lowBattery || x.batteryLow battery) = (x.lowBattery || decide (battery < 10)) := by
    cases hb : x.lowBattery <;> simp [RosterEntry.batteryLow, EntryState.isOut, hw, hb]
  rw [heardEntry, heard_of_work hw, hlow]
  rfl

/-- A handset that is not out keeps its state and its latch. -/
theorem heardEntry_in (hw : x.state.work = none) (n : Superframe) (quality : Nat) :
    heardEntry timeout n battery (some quality) x = { x with
      battery := battery, lastHeard := some n, lastQuality := some quality } := by
  rw [heardEntry, heard_of_idle hw]
  simp [RosterEntry.batteryLow, EntryState.isOut, hw]

end

/-! ## The entry written and its notices sent -/

/-- The notices that hearing from a handset sends. -/
def heardNotices (timeout battery quality : Nat) (x : RosterEntry) : List Notice :=
  foundNotices battery (some quality) x ++ lowNotices timeout battery x

/-- The state in which a report in slot `j` has been heard from entry `e`, its program not read yet. -/
def heardFrom (s : State) (j : Fin 4) (e : Fin 512) (x : RosterEntry) (battery quality : Nat) : State :=
  (heardNotices s.hrs.missTimeout battery quality x).foldl State.sendNotice ((marking s j).setEntry e
    (some (heardEntry s.hrs.missTimeout s.ap.superframe battery (some quality) x)))

section
variable (s : State) (j : Fin 4) (e : Fin 512) (x : RosterEntry) (battery quality : Nat)

theorem heardFrom_only : ((marking s j).setEntry e
    (some (heardEntry s.hrs.missTimeout s.ap.superframe battery (some quality) x))).OnlySiteLink
      (heardFrom s j e x battery quality) := foldl_sendNotice_only _ _

theorem heardFrom_ap : (heardFrom s j e x battery quality).ap = (marking s j).ap := by
  rw [ap_of_only (heardFrom_only s j e x battery quality)]
  rfl

theorem heardFrom_ats : (heardFrom s j e x battery quality).ats = s.ats := by
  rw [ats_of_only (heardFrom_only s j e x battery quality)]
  rfl

theorem heardFrom_hrs : (heardFrom s j e x battery quality).hrs = { s.hrs with
    entries := s.hrs.entries.set e
      (some (heardEntry s.hrs.missTimeout s.ap.superframe battery (some quality) x)) } :=
  hrs_of_only (heardFrom_only ..)

theorem heardFrom_program (p : Fin 32) :
    (heardFrom s j e x battery quality).program p = s.program p := by
  rw [State.program, (heardFrom_only s j e x battery quality : _ = _)]
  rfl

theorem heardFrom_entry : (heardFrom s j e x battery quality).entry e =
    some (heardEntry s.hrs.missTimeout s.ap.superframe battery (some quality) x) := by
  rw [State.entry, heardFrom_hrs, Table.get_set_same]

variable {s j e x battery quality}

theorem heardFrom_sli
    (hm : ∀ y ∈ heardNotices s.hrs.missTimeout battery quality x, s.masked y = false)
    (hl : s.sli.notices.length + (heardNotices s.hrs.missTimeout battery quality x).length ≤ 16) :
    (heardFrom s j e x battery quality).sli = { s.sli with notices := s.sli.notices ++
      (heardNotices s.hrs.missTimeout battery quality x).map fun y => ⟨s.ap.superframe, y⟩ } := by
  rw [heardFrom, foldl_sendNotice_joins (s := (marking s j).setEntry e _) hm hl]
  rfl

end

/-- Notices that joined the queue are the last on their way out when the event ends. -/
theorem noticesOut_joined {l : SiteLink} {v : State} {new : List NoticeFrame}
    (hd : l.noticesLostDue = false) (hv : v.sli = { l with notices := l.notices ++ new }) :
    v.startTransmission.sli.noticesOut = l.noticesOut ++ new := by
  rw [State.startTransmission_noticesOut (by rw [hv]; exact hd), hv]
  simp [SiteLink.noticesOut]

/-- A report of a handset of the roster of its kind, not DOCKED, with no expiry of its entry waiting: the handset is
heard from, and then its program is read (R92 to R94). -/
theorem exec_heardReport {s : State} {j : Fin 4} {e : Fin 512} {x : RosterEntry} {kind : Byte}
    (hr : s.resetHeld = false) (ha : s.ap.onAir = true)
    (hm : s.ap.reportMarks.get j ≠ some s.ap.superframe) (hid : x.id ≠ 0) (he : s.entry e = some x)
    (halone : Alone s e x) (hdue : ∀ w, x.state ≠ .issued w 0)
    (hkind : kind = if x.kind = .receiver then 0 else 1) (hd : ∀ r b, x.state ≠ .docked r b)
    (program battery quality : Byte) :
    exec (.uplinkArrival ([.ofNat 8 (16 + j.val), 0] ++ wordBytes s.ap.superframe ++ idBytes x.id ++
        [kind, program, battery, quality])) s =
      .next (State.startTransmission
        ((heardFrom s j e x (min 100 battery.toNat) (min 15 quality.toNat)).switchLanguage e
          (placeOf 32 program))) := by
  rw [List.append_assoc _ (idBytes x.id), exec_reportArrival hr ha hm, reportArrivalOf_good,
    State.takeReportArrival,
    takeReport_known (s := marking s j) (hkind ▸ kindOf_code x.kind) hid he halone rfl hdue,
    takeRosterReport_heard rfl hd]
  exact congrArg (fun u : State => Host.Outcome.next (u.switchLanguage e _).startTransmission)
    (hearEntry_eq (marking s j) e x _ _)

end Sys2Proof.Machine.ReportLaws
end

section
/-! SUPPORT. A stranger's report: the admission filter (R95) and the stray list (R97). -/

namespace Sys2Proof.Machine.ReportLaws

open NoticeLaws RosterLaws

/-- A filter entry admits an ID equal to its pattern wherever its mask is clear, and its kind (R95). -/
theorem admits_iff (f : FilterEntry) (id : HandsetId) (k : HandsetKind) :
    f.admits id k = true ↔ f.used = true ∧
      (∀ i : Nat, i < 24 → f.mask.getLsbD i = false → id.getLsbD i = f.pattern.getLsbD i) ∧
      (f.kind = .any ∨ (f.kind = .receiver ∧ k = .receiver) ∨ (f.kind = .mic ∧ k = .mic)) := by
  have hbits : ((id ^^^ f.pattern) &&& ~~~f.mask) = 0 ↔
      ∀ i : Nat, i < 24 → f.mask.getLsbD i = false → id.getLsbD i = f.pattern.getLsbD i := by
    rw [BitVec.eq_of_getLsbD_eq_iff]
    refine forall₂_congr fun i hi => ?_
    simp only [BitVec.getLsbD_and, BitVec.getLsbD_xor, BitVec.getLsbD_not, hi, decide_true,
      Bool.true_and]
    cases f.mask.getLsbD i <;> simp
  have hkind : (match f.kind, k with
      | .any, _ => true
      | .receiver, .receiver => true
      | .mic, .mic => true
      | _, _ => false) = true ↔
      (f.kind = .any ∨ (f.kind = .receiver ∧ k = .receiver) ∨ (f.kind = .mic ∧ k = .mic)) := by
    cases f.kind <;> cases k <;> decide
  unfold FilterEntry.admits
  rw [Bool.and_eq_true, Bool.and_eq_true, beq_iff_eq, hbits, and_assoc]
  exact and_congr_right' (and_congr_right' hkind)

section
variable {h : Roster} {id : HandsetId} {k : HandsetKind}

theorem admittedBy_none (hn : h.filterValid = false ∨ ∀ i, ¬(h.filter.get i).admits id k = true) :
    h.admittedBy id k = none := by
  unfold Roster.admittedBy
  split
  · next hv =>
    exact Table.find_eq_none.2 fun i =>
      Bool.eq_false_iff.2 (hn.resolve_left (by simp [hv]) i)
  · rfl

theorem admittedBy_lowest {i : Fin 8} (hv : h.filterValid = true)
    (hi : (h.filter.get i).admits id k = true)
    (hl : ∀ i', i' < i → ¬(h.filter.get i').admits id k = true) : h.admittedBy id k = some i := by
  rw [Roster.admittedBy, if_pos hv, Table.find_eq_some]
  exact ⟨hi, fun i' hlt => Bool.eq_false_iff.2 (hl i' hlt)⟩

end

section
variable {id : HandsetId} {strays : List Stray}

/-- A handset in its one place of the stray list is the one found there. -/
theorem find_stray {before after : List Stray} {y : Stray} (hy : y.id = id)
    (hn : id ∉ (before ++ after).map Stray.id) :
    (before ++ y :: after).find? (fun z => z.id == id) = some y := by
  have hb : before.find? (fun z => z.id == id) = none :=
    List.find?_eq_none.2 fun z hz he => hn (by
      rw [← beq_iff_eq.1 he]
      exact List.mem_map_of_mem (List.mem_append_left _ hz))
  simp [hb, hy]

theorem updateStrays_recent {before after : List Stray} {y : Stray}
    (hs : strays = before ++ y :: after) (hy : y.id = id)
    (hn : id ∉ (before ++ after).map Stray.id) (ha : y.age < 1000) :
    updateStrays id strays = (strays, false) := by
  simp [updateStrays, hs, find_stray hy hn, ha]

/-- A handset last told of long ago goes to the end of the list, and is told of again. -/
theorem updateStrays_old {before after : List Stray} {y : Stray}
    (hs : strays = before ++ y :: after) (hy : y.id = id)
    (hn : id ∉ (before ++ after).map Stray.id) (ha : 1000 ≤ y.age) :
    updateStrays id strays = (before ++ after ++ [⟨id, 0⟩], true) := by
  have hothers (l : List Stray) (hl : ∀ z ∈ l, z ∈ before ++ after) :
      l.filter (fun z => z.id != id) = l :=
    List.filter_eq_self.2 fun z hz => bne_iff_ne.2 fun he =>
      hn (he ▸ List.mem_map_of_mem (hl z hz))
  simp only [updateStrays, hs, find_stray hy hn, Nat.not_lt.2 ha, if_false, List.filter_append,
    List.filter_cons, hy, bne_self_eq_false, Bool.false_eq_true,
    hothers before fun z => List.mem_append_left _, hothers after fun z => List.mem_append_right _]

theorem find_stranger (h : id ∉ strays.map Stray.id) : strays.find? (fun z => z.id == id) = none :=
  List.find?_eq_none.2 fun z hz he => h (by
    rw [← beq_iff_eq.1 he]
    exact List.mem_map_of_mem hz)

theorem updateStrays_joins (h : id ∉ strays.map Stray.id) (hl : strays.length < 8) :
    updateStrays id strays = (strays ++ [⟨id, 0⟩], true) := by
  simp [updateStrays, find_stranger h, hl]

theorem updateStrays_drops (h : id ∉ strays.map Stray.id) {oldest : Stray} {rest : List Stray}
    (hs : strays = oldest :: rest) (hl : rest.length = 7) :
    updateStrays id strays = (rest ++ [⟨id, 0⟩], true) := by
  have hlen : ¬strays.length < 8 := by simp [hs, hl]
  rw [updateStrays, find_stranger h]
  simp [hs, hl]

end

section
variable {s : State} {n : Superframe} {k : HandsetKind} {r : PresenceReport}

theorem takeStranger_unadmitted (h : s.hrs.admittedBy r.id k = none) : s.takeStranger n k r =
    s.onHrs fun h => { h with unadmittedReports := bump h.unadmittedReports } := by
  simp [State.takeStranger, h]

/-- An admitted stranger's report is counted, and its stray list updated. -/
def straying (s : State) (strays : List Stray) : State :=
  s.onHrs fun h => { h with strayReports := bump h.strayReports, strays := strays }

variable {f : Fin 8} {strays : List Stray} (h : s.hrs.admittedBy r.id k = some f)
include h

theorem takeStranger_silent (hs : updateStrays r.id s.hrs.strays = (strays, false)) :
    s.takeStranger n k r = straying s strays := by
  simp [State.takeStranger, h, hs, straying]

theorem takeStranger_told (hs : updateStrays r.id s.hrs.strays = (strays, true)) :
    s.takeStranger n k r = (straying s strays).sendNoticeAt n
      (.stray r.id k r.program r.battery r.quality f) := by
  simp [State.takeStranger, h, hs, straying]

end

end Sys2Proof.Machine.ReportLaws
end

section
/-! SUPPORT. The statement about reports. -/

namespace Sys2Proof.Machine.ReportLaws

open NoticeLaws RosterLaws

section
variable {s t : State} {j : Fin 4} {e : Fin 512} {x : RosterEntry} {battery quality : Nat}

/-- Of the roster only the entry is written. -/
theorem heardFrom_places (h : t.hrs = (heardFrom s j e x battery quality).hrs) :
    t.entry e = some (heardEntry s.hrs.missTimeout s.ap.superframe battery (some quality) x) ∧
      (∀ e', e' ≠ e → t.entry e' = s.entry e') ∧ t.hrs.listeners = s.hrs.listeners ∧
      t.hrs.slots = s.hrs.slots := by
  rw [heardFrom_hrs] at h
  refine ⟨?_, fun e' hne => ?_, by rw [h], by rw [h]⟩
  · rw [State.entry, h, Table.get_set_same]
  · rw [State.entry, h, Table.get_set_other _ _ hne.symm]
    rfl

/-- At the end of the event the notices of the report are on their way out. -/
theorem heardFrom_noticesOut {sent : List Notice}
    (hs : heardNotices s.hrs.missTimeout battery quality x = sent)
    (hm : ∀ y ∈ sent, s.masked y = false) (hl : s.sli.notices.length + sent.length ≤ 16)
    (hd : s.sli.noticesLostDue = false) :
    (heardFrom s j e x battery quality).startTransmission.sli.noticesOut =
      s.sli.noticesOut ++ sent.map fun y => ⟨s.ap.superframe, y⟩ := by
  subst hs
  exact noticesOut_joined hd (heardFrom_sli hm hl)

/-- With no notice to send, those on their way out stand. -/
theorem heardFrom_quiet (hs : heardNotices s.hrs.missTimeout battery quality x = [])
    (h : s.sli.Settled) :
    (heardFrom s j e x battery quality).startTransmission.sli.noticesOut = s.sli.noticesOut := by
  have hsli : (heardFrom s j e x battery quality).sli = s.sli := by
    rw [heardFrom, hs]
    rfl
  rw [KeyLaws.startTransmission_settled (by rwa [hsli]), hsli]

end

section
variable (s : State) (j : Fin 4) (e : Fin 512) (x : RosterEntry) (battery quality : Nat) (p q : Fin 32)

/-- A switch within the tour is followed: the entry takes the program, and the listener counts move (R94). -/
theorem heardFrom_follows (y : RosterEntry) :
    let t := ((((heardFrom s j e x battery quality).setEntry e (some y)).onListeners p
      (· - 1)).onListeners q (· + 1)).startTransmission
    t.entry e = some y ∧ (∀ e', e' ≠ e → t.entry e' = s.entry e') ∧
      t.hrs.listeners = (s.hrs.listeners.modify p (· - 1)).modify q (· + 1) ∧ t.ats = s.ats := by
  intro t
  have honly := State.startTransmission_only ((((heardFrom s j e x battery quality).setEntry e
    (some y)).onListeners p (· - 1)).onListeners q (· + 1))
  have hhrs : t.hrs = { s.hrs with
      entries := s.hrs.entries.set e (some y)
      listeners := (s.hrs.listeners.modify p (· - 1)).modify q (· + 1) } := by
    rw [hrs_of_only honly]
    simp only [State.onListeners, State.onHrs, State.setEntry, heardFrom_hrs, Table.set_set]
  refine ⟨by rw [State.entry, hhrs, Table.get_set_same], fun e' hne => ?_, by rw [hhrs],
    (ats_of_only honly).trans (heardFrom_ats ..)⟩
  rw [State.entry, hhrs, Table.get_set_other _ _ hne.symm]
  rfl

/-- Any other switch is undone by a retune order (R94). -/
theorem heardFrom_undoes :
    let t := ((heardFrom s j e x battery quality).onAts
      (Scheduler.queueRetune ⟨x.id, p⟩)).startTransmission
    t.hrs = (heardFrom s j e x battery quality).hrs ∧ t.ats = s.ats.queueRetune ⟨x.id, p⟩ := by
  have honly := State.startTransmission_only
    ((heardFrom s j e x battery quality).onAts (Scheduler.queueRetune ⟨x.id, p⟩))
  refine ⟨(hrs_of_only honly).trans rfl, ?_⟩
  rw [ats_of_only honly, State.onAts_ats, heardFrom_ats]

end

/-- A report of a handset that is not out writes its entry and sends nothing. -/
theorem heardFrom_in {s : State} {j : Fin 4} {e : Fin 512} {x : RosterEntry} {battery quality : Nat}
    (hw : x.state.work = none) : heardFrom s j e x battery quality =
      (marking s j).setEntry e (some { x with
        battery := battery, lastHeard := some s.ap.superframe, lastQuality := some quality }) := by
  have hlow : lowNotices s.hrs.missTimeout battery x = [] :=
    if_neg fun h => by simp [batteryLow_iff, hw] at h
  have hfound : foundNotices battery (some quality) x = [] := by
    unfold foundNotices
    split
    · next w hst => rw [hst] at hw; cases hw
    · rfl
  rw [heardFrom, heardNotices, hlow, hfound, heardEntry_in hw]
  rfl

/-- A told stranger: the report counted, its slot marked, and the notice on its way out. -/
theorem straying_told (s : State) (j : Fin 4) (strays : List Stray) (x : Notice) :
    let t := ((straying (marking s j) strays).sendNoticeAt s.ap.superframe x).startTransmission
    t.hrs = (straying s strays).hrs ∧ t.ap = (marking s j).ap ∧
      (s.Queues x → t.sli.noticesOut = s.sli.noticesOut ++ [⟨s.ap.superframe, x⟩]) := by
  intro t
  have honly : (straying (marking s j) strays).OnlySiteLink t :=
    (State.sendNoticeAt_only _ _ _).trans (State.startTransmission_only _)
  refine ⟨(hrs_of_only honly).trans rfl, (ap_of_only honly).trans rfl, fun ⟨hm, hl, hd⟩ => ?_⟩
  exact noticesOut_joined hd
    (congrArg State.sli (sendNoticeAt_joins (s := straying (marking s j) strays) hm hl))

/-- Settles O26: a report is sorted by its kind byte and by its handset's entry; one of a handset of the roster is
heard (`exec_heardReport`), and its program read where it is an ISSUED receiver's. -/
theorem reportsOfEverySort : Obligations.ReportsOfEverySort := by
  unfold Obligations.ReportsOfEverySort
  intro s j id kind program battery quality hr ha hm n arrival level marked counted
  let r := reportRead id kind program battery quality
  have sorted : exec arrival s = .next ((marking s j).takeReport n r).startTransmission := by
    simp only [arrival]
    rw [List.append_assoc _ (idBytes id), exec_reportArrival hr ha hm, reportArrivalOf_good]
    rfl
  have counts {f : Roster → Roster} (h : (marking s j).takeReport n r = (marking s j).onHrs f) :
      counted (f s.hrs) := by
    simp only [counted]
    rw [sorted, h]
    rfl
  refine ⟨fun h => counts (takeReport_malformed (h.imp_right kindOf_invalid)), ?_, ?_, ?_⟩
  · have h := exec_reportArrival hr ha hm 1 []
    rw [List.append_nil] at h
    exact h
  · intro e x hid hk01 hdist he hx hdue
    have halone : Alone s e x := fun e' x' he' hid' => hdist.ids e' e x' x he' he hid'
    have known {k : HandsetKind} (hk : kindOf kind = some k) :
        (marking s j).takeReport n r = (marking s j).takeRosterReport n e x k r :=
      takeReport_known (s := marking s j) hk hid he halone hx hdue
    have heard (hk : kind = if x.kind = .receiver then 0 else 1) (hd : ∀ r b, x.state ≠ .docked r b) :=
      exec_heardReport hr ha hm (hx ▸ hid) he halone hdue hk hd program battery quality
    rw [hx] at heard
    refine ⟨fun hne => ?_, fun rack b hk hst => ?_, fun p tour c hk0 hrec hst => ?_,
      fun p tour hk0 hrec hst hp hlow hlatch hroom hml hq => ?_, fun tour k hk1 hmic => ?_,
      fun hk hst => ?_⟩
    · obtain ⟨k, hk, hcode⟩ := kindOf_valid hk01
      exact counts ((known hk).trans (takeRosterReport_mismatch fun h => hne (h ▸ hcode)))
    · exact counts ((known (hk ▸ kindOf_code x.kind)).trans (takeRosterReport_docked rfl hst))
    · have hw : x.state.work = some (.listener p tour) := by rw [hst]; rfl
      have hnew := heardFrom_entry s j e x level (min 15 quality.toNat)
      rw [heardEntry_out hw] at hnew
      have hexec := heard (by rw [hk0, hrec]; rfl) (by rw [hst]; intro r b h; cases h)
      refine ⟨fun q hq hqp ho ht => ?_, fun hother => ?_, fun hp => ?_⟩
      · rw [switchLanguage_follows hnew hrec rfl (by rw [hq, placeOf_program]) hqp
          (by rwa [heardFrom_program]) (by rwa [heardFrom_program])] at hexec
        exact ⟨_, hexec, heardFrom_follows ..⟩
      · rw [switchLanguage_undoes hnew hrec rfl (hother.imp (fun h => dif_neg (Nat.not_lt.2 h))
          fun ⟨q, hq, hqp, hclosed⟩ =>
            ⟨q, by rw [hq, placeOf_program], hqp, by rwa [heardFrom_program]⟩)] at hexec
        obtain ⟨hhrs, hats⟩ := heardFrom_undoes s j e x level (min 15 quality.toNat) p
        obtain ⟨hentry, hothers, hlisteners, -⟩ := heardFrom_places hhrs
        exact ⟨_, hexec, by rw [hentry, heardEntry_out hw], hothers, hlisteners, by rw [← hx]; exact hats⟩
      · rw [switchLanguage_same hnew hrec rfl (by rw [hp, placeOf_program])] at hexec
        have honly := State.startTransmission_only (heardFrom s j e x level (min 15 quality.toNat))
        obtain ⟨hentry, -, -, -⟩ := heardFrom_places (hrs_of_only honly)
        refine ⟨_, hexec, by rw [hentry, heardEntry_out hw], (ats_of_only honly).trans (heardFrom_ats ..),
          fun hlow hlatch ⟨hml, hroom, hd⟩ => ?_, fun hquiet hset => heardFrom_quiet ?_ hset⟩
        · refine heardFrom_noticesOut (sent := [_]) ?_ (by simpa using hml) hroom hd
          rw [heardNotices, foundNotices_issued hst, lowNotices_warns hw ⟨hlow, hlatch⟩, hx, hrec]
          rfl
        · rw [heardNotices, foundNotices_issued hst, lowNotices_quiet ?_, List.append_nil]
          rintro ⟨hlow, hlatch⟩
          exact hquiet.elim (fun h => absurd hlow (Nat.not_lt.2 h)) (by simp [hlatch])
    · have hw : x.state.work = some (.listener p tour) := by rw [hst]; rfl
      have hnew := heardFrom_entry s j e x level (min 15 quality.toNat)
      rw [heardEntry_out hw] at hnew
      have hexec := heard (by rw [hk0, hrec]; rfl) (by rw [hst]; intro r b h; cases h)
      rw [switchLanguage_same hnew hrec rfl (by rw [hp, placeOf_program])] at hexec
      obtain ⟨hmf, -, hd⟩ := hq
      refine ⟨_, hexec, heardFrom_noticesOut (sent := [_, _]) ?_ ?_
        (Nat.succ_le_succ hroom) hd⟩
      · rw [heardNotices, foundNotices_missing hst, lowNotices_warns hw ⟨hlow, hlatch⟩, hx, hrec]
        rfl
      · simpa using ⟨hmf, hml⟩
    · intro w low found heard' warns
      have hexec (hw : x.state.work = some w) := heard (by rw [hk1, hmic]; rfl)
        (fun r b h => by rw [h] at hw; cases hw)
      rw [switchLanguage_unread (heardFrom_entry ..) fun h => absurd (hmic.symm.trans h) (by decide)]
        at hexec
      have gives (hw : x.state.work = some w) {sent : List Notice}
          (hs : heardNotices s.hrs.missTimeout level (min 15 quality.toNat) x = sent)
          (hkinds : ∀ y ∈ sent, y = low ∨ y = found) : heard' sent := by
        have honly := State.startTransmission_only (heardFrom s j e x level (min 15 quality.toNat))
        obtain ⟨hentry, hothers, hlisteners, hslots⟩ := heardFrom_places (hrs_of_only honly)
        refine ⟨_, hexec hw, by rw [hentry, heardEntry_out hw], hothers, hlisteners, hslots,
          (ats_of_only honly).trans (heardFrom_ats ..), (ap_of_only honly).trans (heardFrom_ap ..),
          fun hml hmf hd hroom => heardFrom_noticesOut hs (fun y hy => ?_) hroom hd⟩
        rcases hkinds y hy with rfl | rfl
        · exact hml
        · exact hmf
      have hlow (hw : x.state.work = some w) (h : warns) :
          lowNotices s.hrs.missTimeout level x = [low] := by
        rw [lowNotices_warns hw h, hx, hmic]
      have hfound (h : x.state = .missing w) :
          foundNotices level (some (min 15 quality.toNat)) x = [found] := by
        rw [foundNotices_missing h, hx, hmic]
      refine ⟨fun c hst => ?_, fun hst => ?_⟩
      · have hw : x.state.work = some w := by rw [hst]; rfl
        refine ⟨fun h => gives hw (sent := [low]) ?_ (by simp), fun h => gives hw (sent := []) ?_ (by simp)⟩
        · rw [heardNotices, foundNotices_issued hst, hlow hw h, List.nil_append]
        · rw [heardNotices, foundNotices_issued hst, lowNotices_quiet h, List.nil_append]
      · have hw : x.state.work = some w := by rw [hst]; rfl
        refine ⟨fun h => gives hw (sent := [found, low]) ?_ (by simp),
          fun h => gives hw (sent := [found]) ?_ (by simp)⟩
        · rw [heardNotices, hfound hst, hlow hw h, List.singleton_append]
        · rw [heardNotices, hfound hst, lowNotices_quiet h, List.append_nil]
    · have hw : x.state.work = none := by rcases hst with hst | hst <;> rw [hst] <;> rfl
      have hexec := heard hk fun r b h => by rcases hst with hst | hst <;> cases hst.symm.trans h
      rw [switchLanguage_unread (heardFrom_entry ..) ?_, heardFrom_in hw] at hexec
      · exact hexec
      · intro _ w c h
        rw [heardEntry_in hw] at h
        rcases hst with hst | hst <;> cases hst.symm.trans h
  · intro hid hnone k hk matches_
    have admits (f : FilterEntry) : f.admits id k = true ↔ matches_ f := admits_iff f id k
    have hstranger : (marking s j).takeReport n r = (marking s j).takeStranger n k r :=
      takeReport_stranger (s := marking s j) ((congrArg kindOf hk).trans (kindOf_code k)) hid hnone
    refine ⟨fun h => counts (hstranger.trans (takeStranger_unadmitted (admittedBy_none
      (h.imp_right fun hno i => mt (admits _).1 (hno i))))), fun i hv hi hl => ?_⟩
    intro heard notice told
    have hadmitted : (marking s j).hrs.admittedBy r.id k = some i :=
      admittedBy_lowest hv ((admits _).2 hi) fun i' hlt => mt (admits _).1 (hl i' hlt)
    have tells {strays : List Stray} (hs : updateStrays id s.hrs.strays = (strays, true)) :
        told strays := by
      obtain ⟨hhrs, hap, hout⟩ := straying_told s j strays notice
      refine ⟨_, ?_, hhrs, hap, hout⟩
      rw [sorted, hstranger, takeStranger_told hadmitted hs]
      rfl
    refine ⟨fun before y after hs hy hn => ⟨fun hage => ?_,
      fun hage => tells (updateStrays_old hs hy hn hage)⟩,
      fun hn => ⟨fun hlen => tells (updateStrays_joins hn hlen),
        fun oldest rest hs hlen => tells (updateStrays_drops hn hs hlen)⟩⟩
    exact counts (f := fun h => { h with
        strayReports := bump h.strayReports, strays := s.hrs.strays })
      (hstranger.trans (takeStranger_silent hadmitted (updateStrays_recent hs hy hn hage)))

end Sys2Proof.Machine.ReportLaws
end

section
/-! SUPPORT. The scheduler's first two steps (R67, R68): every holder is served once, and either stays with changed
fields or leaves its slot. -/

namespace Sys2Proof.Machine.SchedulerLaws

/-- The holder table and the programs' holder slots agree (R63). -/
def Agrees (a : Scheduler) : Prop :=
  ∀ d p, a.holders.get d = some p ↔ (a.perProgram.get p).holderSlot = some d

/-- A program's fields once it has left its slot (R63). -/
def released (f : ProgramSchedule) : ProgramSchedule :=
  { f with holderSlot := none, grantSuperframe := none, heldCount := 0, releaseCountdown := none }

theorem leaveSlot_eq (p : Fin 32) (d : Fin 12) (a : Scheduler) : a.leaveSlot p d = { a with
    holders := a.holders.set d none, perProgram := a.perProgram.modify p released } := rfl

/-- What becomes of a holder's fields: none when it leaves its slot. -/
abbrev Fate := Fin 32 → ProgramSchedule → Option ProgramSchedule

/-- Slot `d` is served: its holder, if it has one, stays with changed fields or leaves. -/
def serveSlot (h : Fate) (a : Scheduler) (d : Fin 12) : Scheduler :=
  match a.holders.get d with
  | none => a
  | some p => { a with
      holders := a.holders.set d (if (h p (a.perProgram.get p)).isSome then some p else none)
      perProgram := a.perProgram.set p
        ((h p (a.perProgram.get p)).getD (released (a.perProgram.get p))) }

section
variable {h : Fate} {a : Scheduler} {d : Fin 12}

theorem serveSlot_empty (hd : a.holders.get d = none) : serveSlot h a d = a := by
  simp [serveSlot, hd]

theorem serveSlot_stays {p : Fin 32} {f : ProgramSchedule} (hd : a.holders.get d = some p)
    (hf : h p (a.perProgram.get p) = some f) :
    serveSlot h a d = { a with perProgram := a.perProgram.set p f } := by
  simp only [serveSlot, hd, hf, Option.isSome_some, if_true, Option.getD_some]
  rw [← hd, Table.set_get]

theorem serveSlot_leaves {p : Fin 32} (hd : a.holders.get d = some p)
    (hf : h p (a.perProgram.get p) = none) : serveSlot h a d = a.leaveSlot p d := by
  simp [serveSlot, hd, hf, leaveSlot_eq, Table.modify]

end

/-- The schedule once the slots of `l` are served. -/
def served (h : Fate) (l : List (Fin 12)) (a : Scheduler) : Scheduler :=
  { a with
    holders := .build 12 fun d =>
      if d ∈ l then (a.holders.get d).filter fun p => (h p (a.perProgram.get p)).isSome
      else a.holders.get d
    perProgram := .build 32 fun p =>
      if ∃ d ∈ l, (a.perProgram.get p).holderSlot = some d then
        (h p (a.perProgram.get p)).getD (released (a.perProgram.get p))
      else a.perProgram.get p }

theorem served_nil (h : Fate) (a : Scheduler) : served h [] a = a := by
  have hholders : Table.build 12 a.holders.get = a.holders := Table.ext_get (Table.get_build _)
  have hfields : Table.build 32 a.perProgram.get = a.perProgram := Table.ext_get (Table.get_build _)
  simp [served, hholders, hfields]

/-- To serve one slot more is to serve it among the others, when each program holds at most one. -/
theorem serveSlot_served {h : Fate} {l : List (Fin 12)} {d : Fin 12} {a : Scheduler} (ha : Agrees a)
    (hd : d ∉ l) : serveSlot h (served h l a) d = served h (l ++ [d]) a := by
  have hholder : (served h l a).holders.get d = a.holders.get d := by simp [served, hd]
  cases hp : a.holders.get d with
  | none =>
    have hslot (p) : (a.perProgram.get p).holderSlot ≠ some d := fun hs => by
      simp [(ha d p).2 hs] at hp
    rw [serveSlot_empty (hholder.trans hp)]
    simp only [served, Scheduler.mk.injEq, true_and]
    refine ⟨Table.ext_get fun e => ?_, Table.ext_get fun p => ?_⟩
    · by_cases he : e = d
      · subst he; simp [hp, hd]
      · simp [he]
    · simp [or_and_right, exists_or, hslot]
  | some p =>
    have hslot : (a.perProgram.get p).holderSlot = some d := (ha d p).1 hp
    have hfields : (served h l a).perProgram.get p = a.perProgram.get p := by
      simp [served, hslot, hd]
    have hother (q) (hq : q ≠ p) : (a.perProgram.get q).holderSlot ≠ some d := fun hs =>
      hq (by simpa [hp] using ((ha d q).2 hs).symm)
    simp only [serveSlot, hholder, hp, hfields]
    simp only [served, Scheduler.mk.injEq, true_and]
    refine ⟨Table.ext_get fun e => ?_, Table.ext_get fun q => ?_⟩
    · by_cases he : e = d
      · subst he; simp [hp, Option.filter]
      · simp [he, Ne.symm he]
    · by_cases hq : q = p
      · subst hq; simp [hslot]
      · simp [Ne.symm hq, or_and_right, exists_or, hother q hq]

/-- Serving slots one after another, by any step that serves a slot while the release delay stands. -/
theorem foldl_serve {h : Fate} {g : Scheduler → Fin 12 → Scheduler} {a : Scheduler} (ha : Agrees a)
    (hg : ∀ a' d, a'.releaseDelay = a.releaseDelay → g a' d = serveSlot h a' d)
    {l : List (Fin 12)} (hl : l.Nodup) : l.foldl g a = served h l a := by
  induction l using List.reverseRecOn with
  | nil => exact (served_nil h a).symm
  | append_singleton l d ih =>
    have hd : d ∉ l := by
      rw [List.nodup_append] at hl
      exact fun hm => hl.2.2 d hm d (by simp) rfl
    rw [List.foldl_append, ih (hl.sublist (List.sublist_append_left _ _)), List.foldl_cons,
      List.foldl_nil, hg (served h l a) d rfl, serveSlot_served ha hd]

/-- The schedule once every slot is served. -/
def servedAll (h : Fate) (a : Scheduler) : Scheduler := served h (List.finRange 12) a

theorem foldl_serveAll {h : Fate} {g : Scheduler → Fin 12 → Scheduler} {a : Scheduler}
    (ha : Agrees a) (hg : ∀ a' d, a'.releaseDelay = a.releaseDelay → g a' d = serveSlot h a' d) :
    (List.finRange 12).foldl g a = servedAll h a := foldl_serve ha hg (List.nodup_finRange 12)

section
variable {h : Fate} {a : Scheduler} {p : Fin 32} {d : Fin 12}

theorem servedAll_idle (hp : (a.perProgram.get p).holderSlot = none) :
    (servedAll h a).perProgram.get p = a.perProgram.get p := by
  simp [servedAll, served, hp]

theorem servedAll_holder (hp : (a.perProgram.get p).holderSlot = some d) :
    (servedAll h a).perProgram.get p =
      (h p (a.perProgram.get p)).getD (released (a.perProgram.get p)) := by
  simp [servedAll, served, hp]

theorem servedAll_agrees (ha : Agrees a)
    (hh : ∀ p f f', h p f = some f' → f'.holderSlot = f.holderSlot) : Agrees (servedAll h a) := by
  intro d p
  have hleft : (servedAll h a).holders.get d = some p ↔
      a.holders.get d = some p ∧ (h p (a.perProgram.get p)).isSome = true := by
    simp [servedAll, served]
  rw [hleft, ha d p]
  cases hp : (a.perProgram.get p).holderSlot with
  | none => simp [servedAll_idle hp, hp]
  | some e =>
    rw [servedAll_holder hp]
    cases hf : h p (a.perProgram.get p) with
    | none => simp [released]
    | some f => simp [hh _ _ _ hf, hp]

end

end Sys2Proof.Machine.SchedulerLaws
end

section
/-! SUPPORT. What each step of a start up to the wait queue does to each program (R65, R67 to R69). -/

namespace Sys2Proof.Machine.SchedulerLaws

open NoticeLaws RosterLaws

/-! ## Demand (R65) -/

/-- A program has someone to hold a slot for: listeners, ALL-CALL or HOLD-OPEN. -/
def wanted (s : State) (p : Fin 32) : Bool :=
  decide (0 < s.hrs.listeners.get p) || (s.program p).allCall || (s.program p).holdOpen

theorem wanted_iff {s : State} {p : Fin 32} : wanted s p = true ↔
    0 < s.hrs.listeners.get p ∨ (s.program p).allCall = true ∨ (s.program p).holdOpen = true := by
  simp [wanted, or_assoc]

theorem demands_iff (s : State) (p : Fin 32) : s.demands p = true ↔ (s.program p).isOpen = true ∧
    (0 < s.hrs.listeners.get p ∨ (s.program p).allCall = true ∨ (s.program p).holdOpen = true) ∧
    ((∃ e ∈ (s.program p).mixList, (s.source e.source).detector = .active ∨
      (s.source e.source).detector = .hanging) ∨ (s.program p).test = true ∨
      (s.program p).holdOpen = true) := by
  simp [State.demands, State.anySpeaking, Source.speaking, or_assoc, and_assoc]

theorem wanted_of_demands {s : State} {p : Fin 32} (h : s.demands p = true) : wanted s p = true :=
  wanted_iff.2 ((demands_iff s p).1 h).2.1

/-! ## Steps 1 and 2 (R67, R68) -/

/-- A program's fields once it is held one superframe more. -/
def heldOn (f : ProgramSchedule) : ProgramSchedule := { f with heldCount := bump f.heldCount }

/-- Step 1: a holder that is wanted is held one superframe more, any other leaves. -/
def eligibleFate (s : State) : Fate := fun p f =>
  if wanted s p then some (heldOn f) else none

/-- Step 2: a holder that demands has no countdown; another's begins, runs, or ends its hold. -/
def countFate (s : State) : Fate := fun p f =>
  if s.demands p then some { f with releaseCountdown := none }
  else match f.releaseCountdown with
    | none =>
      if s.ats.releaseDelay = 0 then none
      else some { f with releaseCountdown := some s.ats.releaseDelay }
    | some c => if c ≤ 1 then none else some { f with releaseCountdown := some (c - 1) }

section
variable {s : State} {p : Fin 32} {f : ProgramSchedule}

theorem eligibleFate_wanted (h : wanted s p = true) :
    eligibleFate s p f = some (heldOn f) := if_pos h

theorem eligibleFate_unwanted (h : wanted s p = false) : eligibleFate s p f = none := by
  simp [eligibleFate, h]

theorem countFate_demands (h : s.demands p = true) :
    countFate s p f = some { f with releaseCountdown := none } := if_pos h

variable (h : s.demands p = false)
include h

theorem countFate_at_once (hc : f.releaseCountdown = none) (h0 : s.ats.releaseDelay = 0) :
    countFate s p f = none := by
  simp [countFate, h, hc, h0]

theorem countFate_begins (hc : f.releaseCountdown = none) (h0 : 0 < s.ats.releaseDelay) :
    countFate s p f = some { f with releaseCountdown := some s.ats.releaseDelay } := by
  simp [countFate, h, hc, h0.ne']

variable {c : Nat} (hc : f.releaseCountdown = some c)
include hc

theorem countFate_ends (h1 : c ≤ 1) : countFate s p f = none := by
  simp [countFate, h, hc, h1]

theorem countFate_runs (h1 : 1 < c) :
    countFate s p f = some { f with releaseCountdown := some (c - 1) } := by
  simp [countFate, h, hc, Nat.not_le.2 h1]

end

theorem releaseIneligible_eq (s : State) (a : Scheduler) (d : Fin 12) :
    s.releaseIneligible a d = serveSlot (eligibleFate s) a d := by
  unfold State.releaseIneligible
  cases hd : a.holders.get d with
  | none => exact (serveSlot_empty hd).symm
  | some p =>
    have hcond : (s.hrs.listeners.get p = 0 && !(s.program p).allCall && !(s.program p).holdOpen) =
        !wanted s p := by
      simp [wanted, Bool.and_assoc, Nat.pos_iff_ne_zero]
    cases hw : wanted s p with
    | true =>
      rw [serveSlot_stays hd (eligibleFate_wanted hw)]
      simp only [hcond, hw, Bool.not_true, Bool.false_eq_true, if_false, Table.modify, heldOn]
    | false =>
      rw [serveSlot_leaves hd (eligibleFate_unwanted hw)]
      simp only [hcond, hw, Bool.not_false, if_true, leaveSlot_eq, Table.modify, Table.get_set_same,
        Table.set_set]
      rfl

theorem countRelease_eq (s : State) (a : Scheduler) (d : Fin 12)
    (h : a.releaseDelay = s.ats.releaseDelay) :
    a.countRelease s.demandTable d = serveSlot (countFate s) a d := by
  unfold Scheduler.countRelease
  cases hd : a.holders.get d with
  | none => exact (serveSlot_empty hd).symm
  | some p =>
    have hdemand : s.demandTable.get p = s.demands p := Table.get_build _ _
    cases hp : s.demands p with
    | true =>
      rw [serveSlot_stays hd (countFate_demands hp)]
      simp [hdemand, hp, Table.modify]
    | false =>
      cases hc : (a.perProgram.get p).releaseCountdown with
      | none =>
        rcases Nat.eq_zero_or_pos s.ats.releaseDelay with h0 | h0
        · rw [serveSlot_leaves hd (countFate_at_once hp hc h0)]
          simp [hdemand, hp, hc, h, h0]
        · rw [serveSlot_stays hd (countFate_begins hp hc h0)]
          simp [hdemand, hp, hc, h, h0.ne', Table.modify]
      | some c =>
        rcases Nat.lt_or_ge 1 c with h1 | h1
        · rw [serveSlot_stays hd (countFate_runs hp hc h1)]
          simp [hdemand, hp, hc, Nat.not_le.2 h1, Table.modify]
        · rw [serveSlot_leaves hd (countFate_ends hp hc h1)]
          simp [hdemand, hp, hc, h1]

/-- The schedule after steps 1 and 2. -/
@[irreducible] def afterRelease (s : State) : Scheduler :=
  (List.finRange 12).foldl (Scheduler.countRelease s.demandTable)
    ((List.finRange 12).foldl s.releaseIneligible s.ats)

/-- Who stays, stays in its slot. -/
theorem eligibleFate_keeps {s : State} (p : Fin 32) (f f' : ProgramSchedule)
    (h : eligibleFate s p f = some f') : f'.holderSlot = f.holderSlot := by
  unfold eligibleFate at h
  split at h
  · cases h; rfl
  · cases h

theorem countFate_keeps {s : State} (p : Fin 32) (f f' : ProgramSchedule)
    (h : countFate s p f = some f') : f'.holderSlot = f.holderSlot := by
  unfold countFate at h
  split at h
  · cases h; rfl
  · split at h <;> split at h
    · cases h
    · cases h; rfl
    · cases h
    · cases h; rfl

theorem afterRelease_eq {s : State} (ha : Agrees s.ats) :
    afterRelease s = servedAll (countFate s) (servedAll (eligibleFate s) s.ats) := by
  have hfirst : (List.finRange 12).foldl s.releaseIneligible s.ats = servedAll (eligibleFate s) s.ats :=
    foldl_serveAll ha fun a' d _ => releaseIneligible_eq s a' d
  have hsecond : (List.finRange 12).foldl (Scheduler.countRelease s.demandTable)
      (servedAll (eligibleFate s) s.ats) = servedAll (countFate s) (servedAll (eligibleFate s) s.ats) :=
    foldl_serveAll (servedAll_agrees ha eligibleFate_keeps) fun a' d h => countRelease_eq s a' d h
  unfold afterRelease
  rw [hfirst, hsecond]

section
variable {s : State} (ha : Agrees s.ats)
include ha

theorem afterRelease_rest : afterRelease s = { s.ats with
    holders := (afterRelease s).holders, perProgram := (afterRelease s).perProgram } := by
  rw [afterRelease_eq ha]
  rfl

theorem afterRelease_agrees : Agrees (afterRelease s) := by
  rw [afterRelease_eq ha]
  exact servedAll_agrees (servedAll_agrees ha eligibleFate_keeps) countFate_keeps

variable {p : Fin 32}

theorem afterRelease_idle (hp : (s.ats.perProgram.get p).holderSlot = none) :
    (afterRelease s).perProgram.get p = s.ats.perProgram.get p := by
  have h1 := servedAll_idle (h := eligibleFate s) hp
  rw [afterRelease_eq ha, servedAll_idle (by rw [h1, hp]), h1]

variable {d : Fin 12} (hp : (s.ats.perProgram.get p).holderSlot = some d)
include hp

/-- A holder no one wants leaves at once (R67). -/
theorem afterRelease_unwanted (hw : wanted s p = false) :
    (afterRelease s).perProgram.get p = released (s.ats.perProgram.get p) := by
  have h1 : (servedAll (eligibleFate s) s.ats).perProgram.get p =
      released (s.ats.perProgram.get p) := by
    rw [servedAll_holder hp, eligibleFate_unwanted hw]
    rfl
  rw [afterRelease_eq ha, servedAll_idle (by rw [h1]; rfl), h1]

/-- A wanted holder is held on, and its countdown decides (R68). -/
theorem afterRelease_wanted (hw : wanted s p = true) :
    (afterRelease s).perProgram.get p =
      (countFate s p (heldOn (s.ats.perProgram.get p))).getD
        (released (s.ats.perProgram.get p)) := by
  have h1 : (servedAll (eligibleFate s) s.ats).perProgram.get p =
      heldOn (s.ats.perProgram.get p) := by
    rw [servedAll_holder hp, eligibleFate_wanted hw]
    rfl
  rw [afterRelease_eq ha, servedAll_holder (d := d) (by rw [h1, ← hp]; rfl), h1]
  rfl

end

end Sys2Proof.Machine.SchedulerLaws
end

section
/-! SUPPORT. The third step of a start (R69): who leaves the wait queue, who ages, who joins. -/

namespace Sys2Proof.Machine.SchedulerLaws

open NoticeLaws RosterLaws

/-- Changing different places one after another changes each once. -/
theorem get_foldl_modify {n : Nat} {α : Type} (g : α → α) {l : List (Fin n)} (hl : l.Nodup)
    (t : Table n α) (i : Fin n) :
    (l.foldl (fun t p => t.modify p g) t).get i = if i ∈ l then g (t.get i) else t.get i := by
  induction l generalizing t with
  | nil => rfl
  | cons p l ih =>
    obtain ⟨hp, hl⟩ := List.nodup_cons.1 hl
    rw [List.foldl_cons, ih hl]
    by_cases hi : i = p
    · subst hi; simp [hp]
    · simp [hi, Ne.symm hi]

theorem foldl_leaveQueue (l : List (Fin 32)) (a : Scheduler) :
    l.foldl (fun a p => a.leaveQueue p) a = { a with
      waitQueue := a.waitQueue.filter fun p => !l.contains p
      perProgram := l.foldl (fun t p => t.modify p ProgramSchedule.clearWait) a.perProgram } := by
  induction l generalizing a with
  | nil => simp
  | cons p l ih =>
    rw [List.foldl_cons, ih]
    simp only [Scheduler.leaveQueue, List.filter_filter, List.foldl_cons, Scheduler.mk.injEq,
      true_and, and_true]
    refine List.filter_congr fun q _ => ?_
    by_cases hq : q = p <;> simp [hq]

theorem foldl_joinTail (l : List (Fin 32)) (a : Scheduler) :
    l.foldl (fun a p => a.joinTail p) a = { a with
      waitQueue := a.waitQueue ++ l
      perProgram := l.foldl (fun t p => t.modify p ProgramSchedule.clearWait) a.perProgram } := by
  induction l generalizing a with
  | nil => simp
  | cons p l ih =>
    rw [List.foldl_cons, ih]
    simp [Scheduler.joinTail]

/-! ## Ageing -/

/-- A waiting program's fields once it has aged, its LONG WAIT notice sent when its age passes the limit. -/
def aged (limit : Nat) (f : ProgramSchedule) : ProgramSchedule :=
  { f.age with longWaitMark := f.longWaitMark || decide (limit < f.age.waitAge) }

/-- Program `p` has aged. -/
def ageing (p : Fin 32) (s : State) : State :=
  s.onAts fun a => { a with perProgram := a.perProgram.modify p (aged a.longWaitLimit) }

/-- A waiting program ages, and its LONG WAIT notice is sent when its age passes the limit for the first time. -/
theorem ageWaiter_eq (s : State) (n : Superframe) (p : Fin 32) : s.ageWaiter n p =
    if s.ats.longWaitLimit < (s.ats.perProgram.get p).age.waitAge ∧
        (s.ats.perProgram.get p).longWaitMark = false then
      (ageing p s).sendNoticeAt n (.longWait p (s.program p).tier (s.ats.perProgram.get p).age.waitAge)
    else ageing p s := by
  have hcond : (decide (s.ats.longWaitLimit < (s.ats.perProgram.get p).age.waitAge) &&
      !(s.ats.perProgram.get p).age.longWaitMark) = true ↔
      s.ats.longWaitLimit < (s.ats.perProgram.get p).age.waitAge ∧
        (s.ats.perProgram.get p).longWaitMark = false := by
    simp [ProgramSchedule.age]
  simp only [State.ageWaiter, hcond]
  split
  · next h => simp [ageing, State.onAts, Table.modify, aged, h.1]
  · next h =>
    have hmark : ((s.ats.perProgram.get p).longWaitMark ||
        decide (s.ats.longWaitLimit < (s.ats.perProgram.get p).age.waitAge)) =
        (s.ats.perProgram.get p).longWaitMark := by
      cases hm : (s.ats.perProgram.get p).longWaitMark
      · simpa [hm] using h
      · rfl
    simp only [ageing, State.onAts, Table.modify, aged, hmark]
    rfl

theorem ageWaiter_ats (s : State) (n : Superframe) (p : Fin 32) :
    (s.ageWaiter n p).ats = (ageing p s).ats := by
  rw [ageWaiter_eq]
  split
  · exact ats_of_only (State.sendNoticeAt_only _ _ _)
  · rfl

theorem ageWaiter_programs (s : State) (n : Superframe) (p : Fin 32) :
    (s.ageWaiter n p).programs = s.programs := by
  rw [ageWaiter_eq]
  split
  · rw [(State.sendNoticeAt_only _ _ _ : _ = _)]
    rfl
  · rfl

theorem foldl_ageWaiter_programs (n : Superframe) (l : List (Fin 32)) (s : State) :
    (l.foldl (State.ageWaiter n) s).programs = s.programs := by
  induction l generalizing s with
  | nil => rfl
  | cons p l ih => rw [List.foldl_cons, ih, ageWaiter_programs]

theorem foldl_ageWaiter_ats (n : Superframe) (l : List (Fin 32)) (s : State) :
    (l.foldl (State.ageWaiter n) s).ats = { s.ats with
      perProgram := l.foldl (fun t p => t.modify p (aged s.ats.longWaitLimit)) s.ats.perProgram } := by
  induction l generalizing s with
  | nil => rfl
  | cons p l ih =>
    rw [List.foldl_cons, ih, ageWaiter_ats]
    rfl

/-! ## The start up to the grants -/

/-- The schedule once waiting programs that do not demand have left the queue. -/
@[irreducible] def afterDrop (s : State) : Scheduler := (afterRelease s).dropIdleWaiters s.demandTable

/-- The state once those that still wait have aged. -/
@[irreducible] def afterAge (s : State) (n : Superframe) : State :=
  (afterDrop s).waitQueue.foldl (State.ageWaiter n) (s.onAts fun _ => afterDrop s)

/-- The schedule once those that demand have joined the queue. -/
@[irreducible] def afterJoin (s : State) (n : Superframe) : Scheduler :=
  (afterAge s n).ats.joinDemanders s.demandTable

/-- The programs that wait or join at a start, in queue order (R69). -/
def queueAt (s : State) : List (Fin 32) :=
  s.ats.waitQueue.filter s.demands ++ (List.finRange 32).filter fun p =>
    s.demands p && (s.ats.perProgram.get p).holderSlot.isNone && !s.ats.waitQueue.contains p

theorem afterDrop_rest (s : State) : afterDrop s = { afterRelease s with
    waitQueue := (afterDrop s).waitQueue, perProgram := (afterDrop s).perProgram } := by
  unfold afterDrop
  rw [Scheduler.dropIdleWaiters, foldl_leaveQueue]

theorem afterAge_ats (s : State) (n : Superframe) : (afterAge s n).ats = { afterDrop s with
    perProgram := (afterAge s n).ats.perProgram } := by
  unfold afterAge
  simp only [foldl_ageWaiter_ats, State.onAts_ats]

section
variable {s : State} (h : s.ScheduleAgrees)
include h

theorem waiter_idle {p : Fin 32} (hp : p ∈ s.ats.waitQueue) :
    (s.ats.perProgram.get p).holderSlot = none := (h.apart p hp).1

theorem afterDrop_queue : (afterDrop s).waitQueue = s.ats.waitQueue.filter s.demands := by
  have hq : (afterRelease s).waitQueue = s.ats.waitQueue := by rw [afterRelease_rest h.slots]
  unfold afterDrop
  rw [Scheduler.dropIdleWaiters, foldl_leaveQueue, hq]
  refine List.filter_congr fun p hp => ?_
  simp [State.demandTable, hp]

/-- Who leaves the queue has its wait fields cleared. -/
theorem afterDrop_get (p : Fin 32) : (afterDrop s).perProgram.get p =
    if p ∈ s.ats.waitQueue ∧ s.demands p = false then ((afterRelease s).perProgram.get p).clearWait
    else (afterRelease s).perProgram.get p := by
  have hq : (afterRelease s).waitQueue = s.ats.waitQueue := by rw [afterRelease_rest h.slots]
  unfold afterDrop
  rw [Scheduler.dropIdleWaiters, foldl_leaveQueue, hq,
    get_foldl_modify _ (h.once.filter _)]
  simp [State.demandTable]

/-- Who waits on has aged. -/
theorem afterAge_get (n : Superframe) (p : Fin 32) : (afterAge s n).ats.perProgram.get p =
    if p ∈ s.ats.waitQueue ∧ s.demands p = true then
      aged s.ats.longWaitLimit ((afterDrop s).perProgram.get p)
    else (afterDrop s).perProgram.get p := by
  have hlimit : (afterDrop s).longWaitLimit = s.ats.longWaitLimit := by
    rw [afterDrop_rest, afterRelease_rest h.slots]
  unfold afterAge
  rw [foldl_ageWaiter_ats, get_foldl_modify _ (by
    rw [afterDrop_queue h]; exact h.once.filter _), afterDrop_queue h]
  simp [hlimit]

/-- Neither leaving the queue nor ageing touches a holder slot. -/
theorem afterAge_slot (n : Superframe) (p : Fin 32) :
    ((afterAge s n).ats.perProgram.get p).holderSlot =
      ((afterRelease s).perProgram.get p).holderSlot := by
  rw [afterAge_get h, afterDrop_get h]
  split <;> split <;> rfl

/-- A program that demands keeps the slot it holds. -/
theorem afterRelease_demanding {p : Fin 32} (hp : s.demands p = true) :
    ((afterRelease s).perProgram.get p).holderSlot = (s.ats.perProgram.get p).holderSlot := by
  cases hd : (s.ats.perProgram.get p).holderSlot with
  | none => rw [afterRelease_idle h.slots hd, hd]
  | some d =>
    rw [afterRelease_wanted h.slots hd (wanted_of_demands hp), countFate_demands hp]
    exact hd

/-- Who joins is who demands, holds no slot and does not wait (R69). -/
theorem joiners_eq (n : Superframe) : ((List.finRange 32).filter fun p => s.demandTable.get p &&
    ((afterAge s n).ats.perProgram.get p).holderSlot.isNone &&
      !(afterAge s n).ats.waitQueue.contains p) =
    (List.finRange 32).filter fun p => s.demands p &&
      (s.ats.perProgram.get p).holderSlot.isNone && !s.ats.waitQueue.contains p := by
  refine List.filter_congr fun p _ => ?_
  have hqueue : (afterAge s n).ats.waitQueue = s.ats.waitQueue.filter s.demands := by
    rw [afterAge_ats]
    exact afterDrop_queue h
  rw [afterAge_slot h, hqueue, State.demandTable, Table.get_build]
  cases hp : s.demands p with
  | false => rfl
  | true => simp [afterRelease_demanding h hp, hp]

theorem afterJoin_eq (n : Superframe) : afterJoin s n = { (afterAge s n).ats with
    waitQueue := queueAt s
    perProgram := ((List.finRange 32).filter fun p => s.demands p &&
      (s.ats.perProgram.get p).holderSlot.isNone && !s.ats.waitQueue.contains p).foldl
        (fun t p => t.modify p ProgramSchedule.clearWait) (afterAge s n).ats.perProgram } := by
  have hqueue : (afterAge s n).ats.waitQueue = s.ats.waitQueue.filter s.demands := by
    rw [afterAge_ats]
    exact afterDrop_queue h
  unfold afterJoin
  rw [Scheduler.joinDemanders, joiners_eq h, foldl_joinTail, hqueue]
  rfl

theorem afterJoin_get (n : Superframe) (p : Fin 32) : (afterJoin s n).perProgram.get p =
    if s.demands p = true ∧ (s.ats.perProgram.get p).holderSlot = none ∧ p ∉ s.ats.waitQueue then
      ((afterAge s n).ats.perProgram.get p).clearWait
    else (afterAge s n).ats.perProgram.get p := by
  rw [afterJoin_eq h, get_foldl_modify _ ((List.nodup_finRange 32).filter _)]
  simp [and_assoc]

/-! ## What stands when the grants begin -/

theorem afterJoin_queue (n : Superframe) : (afterJoin s n).waitQueue = queueAt s := by
  rw [afterJoin_eq h]

theorem afterJoin_holders (n : Superframe) :
    (afterJoin s n).holders = (afterRelease s).holders := by
  rw [afterJoin_eq h, afterAge_ats, afterDrop_rest]

theorem afterJoin_preemptions (n : Superframe) :
    (afterJoin s n).preemptions = s.ats.preemptions := by
  rw [afterJoin_eq h, afterAge_ats, afterDrop_rest, afterRelease_rest h.slots]

theorem afterJoin_slot (n : Superframe) (p : Fin 32) : ((afterJoin s n).perProgram.get p).holderSlot =
    ((afterRelease s).perProgram.get p).holderSlot := by
  rw [← afterAge_slot h n, afterJoin_get h]
  split <;> rfl

theorem afterJoin_agrees (n : Superframe) : Agrees (afterJoin s n) := by
  intro d p
  rw [afterJoin_holders h, afterJoin_slot h]
  exact afterRelease_agrees h.slots d p

/-- A holder is as its release left it. -/
theorem afterJoin_holder (n : Superframe) {p : Fin 32} {d : Fin 12}
    (hp : (s.ats.perProgram.get p).holderSlot = some d) :
    (afterJoin s n).perProgram.get p = (afterRelease s).perProgram.get p := by
  have hq : p ∉ s.ats.waitQueue := fun hm => by simp [waiter_idle h hm] at hp
  rw [afterJoin_get h, if_neg (by simp [hp]), afterAge_get h, if_neg (by simp [hq]),
    afterDrop_get h, if_neg (by simp [hq])]

/-- A waiting program that does not demand is out of the queue. -/
theorem afterJoin_idleWaiter (n : Superframe) {p : Fin 32} (hp : p ∈ s.ats.waitQueue)
    (hd : s.demands p = false) :
    (afterJoin s n).perProgram.get p = (s.ats.perProgram.get p).clearWait := by
  rw [afterJoin_get h, if_neg (by simp [hd]), afterAge_get h, if_neg (by simp [hd]),
    afterDrop_get h, if_pos ⟨hp, hd⟩, afterRelease_idle h.slots (waiter_idle h hp)]

/-- A waiting program that demands has aged. -/
theorem afterJoin_waiter (n : Superframe) {p : Fin 32} (hp : p ∈ s.ats.waitQueue)
    (hd : s.demands p = true) : (afterJoin s n).perProgram.get p =
      aged s.ats.longWaitLimit (s.ats.perProgram.get p) := by
  rw [afterJoin_get h, if_neg (by simp [hp]), afterAge_get h, if_pos ⟨hp, hd⟩,
    afterDrop_get h, if_neg (by simp [hd]), afterRelease_idle h.slots (waiter_idle h hp)]

theorem mem_queueAt {p : Fin 32} : p ∈ queueAt s ↔
    s.demands p = true ∧ (s.ats.perProgram.get p).holderSlot = none := by
  by_cases hp : p ∈ s.ats.waitQueue
  · simp [queueAt, hp, waiter_idle h hp]
  · simp [queueAt, hp]

theorem queueAt_nodup : (queueAt s).Nodup := by
  refine List.Nodup.append (h.once.filter _) ((List.nodup_finRange 32).filter _) fun p hp hp' => ?_
  simp only [List.mem_filter, Bool.and_eq_true, Bool.not_eq_true', List.contains_eq_mem,
    decide_eq_false_iff_not] at hp hp'
  exact hp'.2.2 hp.1

theorem afterJoin_queued (n : Superframe) {p : Fin 32} (hp : p ∈ queueAt s) :
    ((afterJoin s n).perProgram.get p).holderSlot = none := by
  obtain ⟨hd, hslot⟩ := (mem_queueAt h).1 hp
  rw [afterJoin_slot h, afterRelease_demanding h hd, hslot]

end

end Sys2Proof.Machine.SchedulerLaws
end

section
/-! SUPPORT. The fourth step of a start (R70): which waiting programs are granted which slots. -/

namespace Sys2Proof.Machine.SchedulerLaws

/-- A program that gains slot `d` has the fields of a new holder and has left the queue (R63, R64). -/
def grantedFields (n : Superframe) (d : Fin 12) (f : ProgramSchedule) : ProgramSchedule :=
  { f with
    holderSlot := some d, grantSuperframe := some n, heldCount := 0, releaseCountdown := none
    waitAge := 0, longWaitMark := false }

/-- Waiting program `p` is granted slot `d`. -/
def grant (n : Superframe) (p : Fin 32) (d : Fin 12) (a : Scheduler) : Scheduler :=
  (a.leaveQueue p).gainSlot n p d

theorem grant_eq (n : Superframe) (p : Fin 32) (d : Fin 12) (a : Scheduler) : grant n p d a = { a with
    holders := a.holders.set d (some p)
    waitQueue := a.waitQueue.filter (· != p)
    perProgram := a.perProgram.modify p (grantedFields n d) } := by
  simp only [grant, Scheduler.gainSlot, Scheduler.leaveQueue, Table.modify, Table.get_set_same,
    Table.set_set]
  rfl

/-- A program goes before another in the grants: a higher tier, or an earlier place in queue `l` (R70). -/
def goesBefore (tier : Fin 32 → Nat) (l : List (Fin 32)) (p q : Fin 32) : Prop :=
  tier q < tier p ∨ (tier q = tier p ∧ [p, q].Sublist l)

theorem not_pair_self {l : List (Fin 32)} (hl : l.Nodup) (p : Fin 32) : ¬[p, p].Sublist l :=
  fun h => by simpa using hl.sublist h

/-! ## The best waiter -/

theorem bestWaiter_none {tier : Fin 32 → Nat} {l : List (Fin 32)} (h : bestWaiter tier l = none) :
    l = [] := by
  cases l with
  | nil => rfl
  | cons p l =>
    unfold bestWaiter at h
    split at h
    · cases h
    · split at h <;> cases h

/-- The best waiter waits, and no waiting program goes before it. -/
theorem bestWaiter_some {tier : Fin 32 → Nat} {l : List (Fin 32)} (hl : l.Nodup) {p : Fin 32}
    (h : bestWaiter tier l = some p) : p ∈ l ∧ ∀ q ∈ l, ¬goesBefore tier l q p := by
  induction l generalizing p with
  | nil => cases h
  | cons x l ih =>
    obtain ⟨hx, hl⟩ := List.nodup_cons.1 hl
    have hhead (q) : ¬[q, x].Sublist (x :: l) := by
      intro hs
      cases hs with
      | cons _ hs => exact hx (hs.subset (by simp))
      | cons_cons _ hs => exact hx (hs.subset (by simp))
    unfold bestWaiter at h
    split at h
    · next hb =>
      cases h
      rw [bestWaiter_none hb]
      simp [goesBefore, List.sublist_singleton]
    · next r hb =>
      obtain ⟨hr, hbest⟩ := ih hl hb
      split at h
      · next hlt =>
        cases h
        refine ⟨List.mem_cons_of_mem x hr, fun q hq hbefore => ?_⟩
        rcases List.mem_cons.1 hq with rfl | hq
        · rcases hbefore with hb | ⟨hb, -⟩ <;> omega
        · refine hbest q hq (hbefore.imp_right fun ⟨ht, hs⟩ => ⟨ht, ?_⟩)
          cases hs with
          | cons _ hs => exact hs
          | cons_cons _ hs => exact absurd hq hx
      · next hlt =>
        cases h
        refine ⟨List.mem_cons_self, fun q hq hbefore => ?_⟩
        rcases hbefore with hb | ⟨-, hs⟩
        · rcases List.mem_cons.1 hq with rfl | hq
          · omega
          · exact hbest q hq (.inl (by omega))
        · exact hhead q hs

/-! ## The grants, one after another -/

/-- Schedule `b` comes of schedule `a` by grants at start `n`: each to the program that goes before all that still wait,
and of the lowest free slot. -/
structure Granting (tier : Fin 32 → Nat) (n : Superframe) (a b : Scheduler) : Prop where
  agrees : Agrees b
  rest : b = { a with
    holders := b.holders, waitQueue := b.waitQueue, perProgram := b.perProgram }
  queue : b.waitQueue = a.waitQueue.filter fun p => (b.perProgram.get p).holderSlot.isNone
  held : ∀ d p, a.holders.get d = some p → b.holders.get d = some p
  ungranted : ∀ p, p ∉ a.waitQueue ∨ (b.perProgram.get p).holderSlot = none →
    b.perProgram.get p = a.perProgram.get p
  granted : ∀ p ∈ a.waitQueue, ∀ d, (b.perProgram.get p).holderSlot = some d →
    b.perProgram.get p = grantedFields n d (a.perProgram.get p) ∧
      (∀ d', d' < d → b.holders.get d' ≠ none) ∧
      ∀ q ∈ a.waitQueue, goesBefore tier a.waitQueue q p →
        ∃ d', (b.perProgram.get q).holderSlot = some d' ∧ d' < d

theorem Granting.refl {tier : Fin 32 → Nat} (n : Superframe) {a : Scheduler} (ha : Agrees a)
    (hq : ∀ p ∈ a.waitQueue, (a.perProgram.get p).holderSlot = none) : Granting tier n a a where
  agrees := ha
  rest := rfl
  queue := (List.filter_eq_self.2 fun p hp => by simp [hq p hp]).symm
  held _ _ h := h
  ungranted _ _ := rfl
  granted p hp d hd := by simp [hq p hp] at hd

/-- Each further grant keeps it so. -/
theorem Granting.grant {tier : Fin 32 → Nat} {n : Superframe} {a b : Scheduler} {p : Fin 32}
    {d : Fin 12} (h : Granting tier n a b) (hnodup : a.waitQueue.Nodup)
    (hd : b.holders.find Option.isNone = some d) (hp : bestWaiter tier b.waitQueue = some p) :
    Granting tier n a (grant n p d b) := by
  obtain ⟨hfree, hlow⟩ := Table.find_eq_some.1 hd
  have hfree : b.holders.get d = none := Option.isNone_iff_eq_none.1 hfree
  have hbq : b.waitQueue.Sublist a.waitQueue := h.queue ▸ List.filter_sublist
  obtain ⟨hpb, hbest⟩ := bestWaiter_some (hnodup.sublist hbq) hp
  have hpa : p ∈ a.waitQueue := hbq.subset hpb
  have hslot : (b.perProgram.get p).holderSlot = none := by
    rw [h.queue] at hpb
    exact Option.isNone_iff_eq_none.1 (List.mem_filter.1 hpb).2
  have hpfields := h.ungranted p (.inr hslot)
  have hget (q) : (SchedulerLaws.grant n p d b).perProgram.get q =
      if q = p then grantedFields n d (b.perProgram.get p) else b.perProgram.get q := by
    rw [grant_eq]
    by_cases hq : q = p
    · subst hq; simp
    · simp [hq, Ne.symm hq]
  have hnew : ((SchedulerLaws.grant n p d b).perProgram.get p).holderSlot = some d := by
    rw [hget, if_pos rfl]; rfl
  have hold {q} (hq : q ≠ p) : (SchedulerLaws.grant n p d b).perProgram.get q = b.perProgram.get q := by
    rw [hget, if_neg hq]
  have hholders (e) : (SchedulerLaws.grant n p d b).holders.get e =
      if d = e then some p else b.holders.get e := by
    rw [grant_eq, Table.get_set]
  refine ⟨fun e q => ?_, ?_, ?_, fun e q he => ?_, fun q hq => ?_, fun q hq e he => ?_⟩
  · rw [hholders]
    by_cases hq : q = p
    · subst hq
      rw [hnew]
      by_cases he : d = e
      · simp [he]
      · simp only [he, if_false, Option.some.injEq, iff_false]
        exact fun hh => by simp [(h.agrees e q).1 hh] at hslot
    · rw [hold hq]
      by_cases he : d = e
      · subst he
        simp only [if_true, Option.some.injEq, Ne.symm hq, false_iff]
        exact fun hh => by simp [(h.agrees d q).2 hh] at hfree
      · rw [if_neg he]
        exact h.agrees e q
  · rw [grant_eq]
    conv_lhs => rw [h.rest]
  · rw [show (SchedulerLaws.grant n p d b).waitQueue = b.waitQueue.filter (· != p) by rw [grant_eq],
      h.queue, List.filter_filter]
    refine List.filter_congr fun q _ => ?_
    by_cases hq : q = p
    · subst hq; simp [hnew]
    · simp [hold hq, hq]
  · have hb := h.held e q he
    rw [hholders, if_neg (fun hde => by subst hde; simp [hb] at hfree), hb]
  · have hqp : q ≠ p := by
      rintro rfl
      exact hq.elim (· hpa) (by simp [hnew])
    rw [hold hqp] at hq ⊢
    exact h.ungranted q hq
  · have hfilled (d') (hne : d ≠ d') (hb : b.holders.get d' ≠ none) :
        (SchedulerLaws.grant n p d b).holders.get d' ≠ none := by rwa [hholders, if_neg hne]
    by_cases hqp : q = p
    · subst hqp
      obtain rfl : d = e := Option.some.inj (hnew.symm.trans he)
      refine ⟨by rw [hget, if_pos rfl, hpfields], fun d' hd' => ?_, fun r hr hbefore => ?_⟩
      · exact hfilled d' hd'.ne' fun hn => by simpa [hn] using hlow d' hd'
      · have hrb : r ∉ b.waitQueue := fun hrb => hbest r hrb (hbefore.imp_right fun ⟨ht, hs⟩ => by
          have hs := hs.filter fun p => (b.perProgram.get p).holderSlot.isNone
          rw [← h.queue, List.filter_eq_self.2] at hs
          · exact ⟨ht, hs⟩
          · rw [h.queue] at hrb
            simpa [hslot] using (List.mem_filter.1 hrb).2)
        have hrp : r ≠ q := fun hrq => hrb (hrq ▸ hpb)
        cases hrd : (b.perProgram.get r).holderSlot with
        | none => exact absurd (by rw [h.queue]; simp [hr, hrd]) hrb
        | some d' =>
          have hrheld : b.holders.get d' = some r := (h.agrees d' r).2 hrd
          refine ⟨d', by rw [hold hrp, hrd], lt_of_not_ge fun hle => ?_⟩
          rcases hle.lt_or_eq with hlt | rfl
          · exact (h.granted r hr d' hrd).2.1 d hlt hfree
          · simp [hrheld] at hfree
    · rw [hold hqp] at he ⊢
      obtain ⟨hfields, hlower, hbefores⟩ := h.granted q hq e he
      refine ⟨hfields, fun d' hd' => ?_, fun r hr hbefore => ?_⟩
      · by_cases hdd : d = d'
        · rw [hholders, if_pos hdd]; simp
        · exact hfilled d' hdd (hlower d' hd')
      · obtain ⟨d', hrd, hlt⟩ := hbefores r hr hbefore
        have hrp : r ≠ p := fun hrp => by simp [hrp ▸ hslot] at hrd
        exact ⟨d', by rw [hold hrp, hrd], hlt⟩

/-- The grants of a start (R70). -/
theorem grantSlots_succ (s : State) (n : Superframe) (k : Nat) (a : Scheduler) :
    (∃ d p, a.holders.find Option.isNone = some d ∧ bestWaiter s.effectiveTier a.waitQueue = some p ∧
      s.grantSlots n (k + 1) a = s.grantSlots n k (grant n p d a)) ∨
    ((a.holders.find Option.isNone = none ∨ bestWaiter s.effectiveTier a.waitQueue = none) ∧
      s.grantSlots n (k + 1) a = a) := by
  cases hd : a.holders.find Option.isNone with
  | none => exact .inr ⟨.inl rfl, by simp only [State.grantSlots, hd]⟩
  | some d =>
    cases hp : bestWaiter s.effectiveTier a.waitQueue with
    | none => exact .inr ⟨.inr rfl, by simp only [State.grantSlots, hd, hp]⟩
    | some p => exact .inl ⟨d, p, rfl, rfl, by simp only [State.grantSlots, hd, hp, grant]⟩

theorem grantSlots_granting {s : State} {n : Superframe} {a b : Scheduler} (k : Nat)
    (hnodup : a.waitQueue.Nodup) (h : Granting s.effectiveTier n a b) :
    Granting s.effectiveTier n a (s.grantSlots n k b) := by
  induction k generalizing b with
  | zero => exact h
  | succ k ih =>
    rcases grantSlots_succ s n k b with ⟨d, p, hd, hp, heq⟩ | ⟨-, heq⟩
    · rw [heq]
      exact ih (h.grant hnodup hd hp)
    · rwa [heq]

/-- How many slots are free. -/
def freeSlots (a : Scheduler) : Nat := (Finset.univ.filter fun d => a.holders.get d = none).card

/-- A grant fills a slot. -/
theorem freeSlots_grant {a : Scheduler} {d : Fin 12} (n : Superframe) (p : Fin 32)
    (hd : a.holders.get d = none) : freeSlots (grant n p d a) < freeSlots a := by
  refine Finset.card_lt_card ⟨fun e he => ?_, fun hsub => ?_⟩
  · simp only [Finset.mem_filter, Finset.mem_univ, true_and, grant_eq, Table.get_set] at he ⊢
    split at he
    · cases he
    · exact he
  · have := hsub (Finset.mem_filter.2 ⟨Finset.mem_univ d, hd⟩)
    simp [grant_eq] at this

/-- With a grant for each free slot, no program waits beside a free slot (R70). -/
theorem grantSlots_full {s : State} {n : Superframe} {k : Nat} {a : Scheduler} (hk : freeSlots a ≤ k) :
    (∀ d, (s.grantSlots n k a).holders.get d ≠ none) ∨ (s.grantSlots n k a).waitQueue = [] := by
  induction k generalizing a with
  | zero =>
    have hempty := Finset.card_eq_zero.1 (Nat.le_zero.1 hk)
    refine .inl fun d hd => ?_
    have hmem : d ∈ Finset.univ.filter fun d => a.holders.get d = none :=
      Finset.mem_filter.2 ⟨Finset.mem_univ d, hd⟩
    simp [hempty] at hmem
  | succ k ih =>
    rcases grantSlots_succ s n k a with ⟨d, p, hd, hp, heq⟩ | ⟨hno, heq⟩
    · have hfree := Option.isNone_iff_eq_none.1 (Table.find_eq_some.1 hd).1
      have hlt := freeSlots_grant n p hfree
      rw [heq]
      exact ih (by omega)
    · rw [heq]
      refine hno.imp (fun hnone d hd => ?_) bestWaiter_none
      simpa [hd] using Table.find_eq_none.1 hnone d

theorem freeSlots_le (a : Scheduler) : freeSlots a ≤ 12 := by
  simpa [freeSlots] using Finset.card_filter_le (Finset.univ : Finset (Fin 12)) _

end Sys2Proof.Machine.SchedulerLaws
end

section
/-! SUPPORT. The fifth step of a start (R71): the holder that gives way to the waiting ALL-CALL program. -/

namespace Sys2Proof.Machine.SchedulerLaws

/-- Holder `v` of slot `d` gives way no later than holder `q` of slot `e`: lowest tier, then smallest held count, then
highest slot (R71). -/
def yieldsTo (s : State) (a : Scheduler) (d : Fin 12) (v : Fin 32) (e : Fin 12) (q : Fin 32) : Prop :=
  (s.program v).tier < (s.program q).tier ∨ ((s.program v).tier = (s.program q).tier ∧
    ((a.perProgram.get v).heldCount < (a.perProgram.get q).heldCount ∨
      ((a.perProgram.get v).heldCount = (a.perProgram.get q).heldCount ∧ e ≤ d)))

/-- Of the holders of the slots of `l` the one picked gives way first; none is picked where there is none. -/
def Picked (s : State) (a : Scheduler) (l : List (Fin 12)) : Option (Fin 12 × Fin 32) → Prop
  | none => ∀ e ∈ l, a.holders.get e = none
  | some (d, v) => a.holders.get d = some v ∧
      ∀ e ∈ l, ∀ q, a.holders.get e = some q → yieldsTo s a d v e q

section
variable {s : State} {a : Scheduler} {l : List (Fin 12)} {e : Fin 12}

theorem Picked.skip {best : Option (Fin 12 × Fin 32)} (h : Picked s a l best)
    (he : a.holders.get e = none) : Picked s a (l ++ [e]) best := by
  cases best with
  | none =>
    intro e' he'
    rcases List.mem_append.1 he' with hl | hl
    · exact h e' hl
    · rwa [List.mem_singleton.1 hl]
  | some x =>
    refine ⟨h.1, fun e' he' q hq => ?_⟩
    rcases List.mem_append.1 he' with hl | hl
    · exact h.2 e' hl q hq
    · simp [List.mem_singleton.1 hl, he] at hq

variable {q : Fin 32} (he : a.holders.get e = some q)
include he

theorem Picked.first (h : Picked s a l none) : Picked s a (l ++ [e]) (some (e, q)) := by
  refine ⟨he, fun e' he' q' hq' => ?_⟩
  rcases List.mem_append.1 he' with hl | hl
  · simp [h e' hl] at hq'
  · obtain rfl := List.mem_singleton.1 hl
    obtain rfl := Option.some.inj (he.symm.trans hq')
    exact .inr ⟨rfl, .inr ⟨rfl, le_refl _⟩⟩

variable {d : Fin 12} {v : Fin 32} (h : Picked s a l (some (d, v)))
include h

/-- A later slot's holder of no higher tier and no greater count is picked instead. -/
theorem Picked.next (hl : ∀ e' ∈ l, e' < e) (hw : s.givesWayBefore a q v = true) :
    Picked s a (l ++ [e]) (some (e, q)) := by
  simp only [State.givesWayBefore, Bool.or_eq_true, Bool.and_eq_true, decide_eq_true_eq] at hw
  refine ⟨he, fun e' he' q' hq' => ?_⟩
  rcases List.mem_append.1 he' with hm | hm
  · have hv := h.2 e' hm q' hq'
    have hlt := hl e' hm
    unfold yieldsTo at hv ⊢
    omega
  · obtain rfl := List.mem_singleton.1 hm
    obtain rfl := Option.some.inj (he.symm.trans hq')
    exact .inr ⟨rfl, .inr ⟨rfl, le_refl _⟩⟩

theorem Picked.stays (hw : ¬s.givesWayBefore a q v = true) :
    Picked s a (l ++ [e]) (some (d, v)) := by
  simp only [State.givesWayBefore, Bool.or_eq_true, Bool.and_eq_true, decide_eq_true_eq] at hw
  refine ⟨h.1, fun e' he' q' hq' => ?_⟩
  rcases List.mem_append.1 he' with hm | hm
  · exact h.2 e' hm q' hq'
  · obtain rfl := List.mem_singleton.1 hm
    obtain rfl := Option.some.inj (he.symm.trans hq')
    unfold yieldsTo
    omega

end

/-- The holder chosen is the one that gives way first (R71). -/
theorem chooseVictim_picked (s : State) (a : Scheduler) :
    Picked s a (List.finRange 12) (s.chooseVictim a) := by
  have hsorted : (List.finRange 12).Pairwise (· < ·) := List.pairwise_lt_finRange 12
  unfold State.chooseVictim
  generalize List.finRange 12 = l at hsorted ⊢
  induction l using List.reverseRecOn with
  | nil => exact fun e he => absurd he List.not_mem_nil
  | append_singleton l e ih =>
    obtain ⟨hl, -, hlt⟩ := List.pairwise_append.1 hsorted
    have ih := ih hl
    rw [List.foldl_append, List.foldl_cons, List.foldl_nil]
    split
    · next he => exact ih.skip he
    · next q he hb => exact Picked.first he (hb ▸ ih)
    · next q e' p he hb =>
      rw [hb] at ih
      split
      · next hw => exact Picked.next he ih (fun e' hm => hlt e' hm e (by simp)) hw
      · next hw => exact hb ▸ Picked.stays he ih hw

/-! ## The preemption -/

/-- Program `c` takes slot `d` from its holder `v`, which waits at the head of the queue. -/
def preempted (n : Superframe) (c : Fin 32) (d : Fin 12) (v : Fin 32) (a : Scheduler) : Scheduler :=
  { grant n c d ((a.leaveSlot v d).joinHead v) with preemptions := bump a.preemptions }

section
variable {n : Superframe} {c v : Fin 32} {d : Fin 12} {a : Scheduler}

theorem preempted_holders : (preempted n c d v a).holders = a.holders.set d (some c) := by
  simp [preempted, grant_eq, Scheduler.joinHead, leaveSlot_eq]

theorem preempted_queue (h : v ≠ c) :
    (preempted n c d v a).waitQueue = v :: a.waitQueue.filter (· != c) := by
  simp [preempted, grant_eq, Scheduler.joinHead, leaveSlot_eq, h]

theorem preempted_taker (h : v ≠ c) :
    (preempted n c d v a).perProgram.get c = grantedFields n d (a.perProgram.get c) := by
  simp [preempted, grant_eq, Scheduler.joinHead, leaveSlot_eq, h]

theorem preempted_victim (h : v ≠ c) :
    (preempted n c d v a).perProgram.get v = (released (a.perProgram.get v)).clearWait := by
  simp [preempted, grant_eq, Scheduler.joinHead, leaveSlot_eq, h.symm]

theorem preempted_other {q : Fin 32} (hc : q ≠ c) (hv : q ≠ v) :
    (preempted n c d v a).perProgram.get q = a.perProgram.get q := by
  simp [preempted, grant_eq, Scheduler.joinHead, leaveSlot_eq, hc.symm, hv.symm]

end

section
variable (s : State) (n : Superframe) (a : Scheduler)

/-- Either the schedule stands, or the ALL-CALL program waits and takes the chosen holder's slot (R71). -/
theorem preempt_cases : s.preempt n a = a ∨ ∃ c d v, (s.program c).allCall = true ∧ c ∈ a.waitQueue ∧
    a.holders.get d = some v ∧ s.preempt n a = preempted n c d v a := by
  have hpicked := chooseVictim_picked s a
  unfold State.preempt
  split
  · exact .inl rfl
  · next c hc =>
    split
    · next hq =>
      split
      · exact .inl rfl
      · next d v hv =>
        rw [hv] at hpicked
        exact .inr ⟨c, d, v, (Table.find_eq_some.1 hc).1, by simpa using hq, hpicked.1, rfl⟩
    · exact .inl rfl

end

section
variable {s : State} {n : Superframe} {a : Scheduler}

/-- The one ALL-CALL program, waiting beside slots that are all held, takes the slot of the holder that gives way
first. -/
theorem preempt_takes {c : Fin 32} (hc : (s.program c).allCall = true)
    (hone : ∀ c', (s.program c').allCall = true → c' = c) (hq : c ∈ a.waitQueue)
    (hfull : ∀ d, a.holders.get d ≠ none) : ∃ d v, a.holders.get d = some v ∧
      (∀ e q, a.holders.get e = some q → yieldsTo s a d v e q) ∧
      s.preempt n a = preempted n c d v a := by
  have hpicked := chooseVictim_picked s a
  have hprogram : s.allCallProgram = some c :=
    Table.find_eq_some.2 ⟨hc, fun c' hlt => Bool.eq_false_iff.2 fun h => hlt.ne (hone c' h)⟩
  cases hv : s.chooseVictim a with
  | none =>
    rw [hv] at hpicked
    exact absurd (hpicked 0 (List.mem_finRange 0)) (hfull 0)
  | some x =>
    obtain ⟨d, v⟩ := x
    rw [hv] at hpicked
    refine ⟨d, v, hpicked.1, fun e q => hpicked.2 e (List.mem_finRange e) q, ?_⟩
    simp only [State.preempt, hprogram, hv, List.contains_eq_mem, hq, decide_true, if_true]
    rfl

end

end Sys2Proof.Machine.SchedulerLaws
end

section
/-! SUPPORT. A start as a whole (R66): its schedule and its notices, from what stands when the grants begin. -/

namespace Sys2Proof.Machine.SchedulerLaws

open NoticeLaws RosterLaws

/-! ## Grants and preemption read the programs alone -/

theorem effectiveTier_congr {s t : State} (h : t.programs = s.programs) :
    t.effectiveTier = s.effectiveTier := by
  funext p
  rw [State.effectiveTier, State.program, h]
  rfl

theorem grantSlots_congr {s t : State} (h : t.programs = s.programs) (n : Superframe) (k : Nat)
    (a : Scheduler) : t.grantSlots n k a = s.grantSlots n k a := by
  induction k generalizing a with
  | zero => rfl
  | succ k ih => simp only [State.grantSlots, effectiveTier_congr h, ih]

theorem preempt_congr {s t : State} (h : t.programs = s.programs) (n : Superframe) (a : Scheduler) :
    t.preempt n a = s.preempt n a := by
  have hgives : t.givesWayBefore = s.givesWayBefore := by
    funext b q p
    simp only [State.givesWayBefore, State.program, h]
    rfl
  simp only [State.preempt, State.allCallProgram, State.chooseVictim, h, hgives]

/-- The schedule of a start behind its six steps, the map apart. -/
def scheduledAt (s : State) (n : Superframe) : Scheduler :=
  s.preempt n (s.grantSlots n 12 (afterJoin s n))

/-- The state in which a start has taken its first five steps. -/
def granted (s : State) (n : Superframe) : State :=
  (afterAge s n).onAts fun _ => scheduledAt s n

/-- A change of the schedule is its result put in place. -/
theorem onAts_const (s : State) (f : Scheduler → Scheduler) :
    s.onAts f = s.onAts fun _ => f s.ats := rfl

theorem onAts_onAts (s : State) (f g : Scheduler → Scheduler) :
    (s.onAts f).onAts g = s.onAts fun a => g (f a) := rfl

theorem start_drop_eq (s : State) :
    ((s.onAts fun a => (List.finRange 12).foldl s.releaseIneligible a).onAts fun a =>
      (List.finRange 12).foldl (Scheduler.countRelease s.demandTable) a).onAts
        (Scheduler.dropIdleWaiters s.demandTable) = s.onAts fun _ => afterDrop s := by
  unfold afterDrop afterRelease
  rw [onAts_onAts, onAts_onAts]
  exact onAts_const s _

theorem start_age_eq (s : State) (n : Superframe) :
    (s.onAts fun _ => afterDrop s).ats.waitQueue.foldl (State.ageWaiter n)
      (s.onAts fun _ => afterDrop s) = afterAge s n := by
  unfold afterAge
  rw [State.onAts_ats]

theorem start_join_eq (s : State) (n : Superframe) :
    (afterAge s n).onAts (Scheduler.joinDemanders s.demandTable) =
      (afterAge s n).onAts fun _ => afterJoin s n := by
  unfold afterJoin
  exact onAts_const _ _

theorem start_grants_eq (s : State) (n : Superframe) (a : Scheduler) :
    (s.onAts fun _ => a).onAts ((s.onAts fun _ => a).grantSlots n 12) =
      s.onAts fun _ => s.grantSlots n 12 a := by
  rw [onAts_const (s.onAts fun _ => a), onAts_onAts, State.onAts_ats,
    grantSlots_congr (s := s) (t := s.onAts fun _ => a) rfl]

theorem start_preempt_eq (s : State) (n : Superframe) (a : Scheduler) :
    (s.onAts fun _ => a).onAts ((s.onAts fun _ => a).preempt n) =
      s.onAts fun _ => s.preempt n a := by
  rw [onAts_const (s.onAts fun _ => a), onAts_onAts, State.onAts_ats,
    preempt_congr (s := s) (t := s.onAts fun _ => a) rfl]

theorem afterAge_programs (s : State) (n : Superframe) : (afterAge s n).programs = s.programs := by
  unfold afterAge
  rw [foldl_ageWaiter_programs]
  rfl

theorem schedulerStart_eq (s : State) (n : Superframe) :
    s.schedulerStart n = (granted s n).buildMap n := by
  simp only [State.schedulerStart, start_drop_eq, start_age_eq, start_join_eq, start_grants_eq,
    start_preempt_eq, granted, scheduledAt, grantSlots_congr (afterAge_programs s n),
    preempt_congr (afterAge_programs s n)]

/-! ## What the map leaves of it (R72 to R76) -/

theorem start_ats (s : State) (n : Superframe) : (s.schedulerStart n).ats = { scheduledAt s n with
    retuneQueue := (s.schedulerStart n).ats.retuneQueue
    builtMap := (s.schedulerStart n).ats.builtMap } := by
  rw [schedulerStart_eq]
  rfl

theorem start_sli (s : State) (n : Superframe) : (s.schedulerStart n).sli = (afterAge s n).sli := by
  rw [schedulerStart_eq]
  rfl

theorem start_holders (s : State) (n : Superframe) :
    (s.schedulerStart n).ats.holders = (scheduledAt s n).holders := by rw [start_ats]

theorem start_queue (s : State) (n : Superframe) :
    (s.schedulerStart n).ats.waitQueue = (scheduledAt s n).waitQueue := by rw [start_ats]

theorem start_fields (s : State) (n : Superframe) :
    (s.schedulerStart n).ats.perProgram = (scheduledAt s n).perProgram := by rw [start_ats]

theorem start_preemptions (s : State) (n : Superframe) :
    (s.schedulerStart n).ats.preemptions = (scheduledAt s n).preemptions := by rw [start_ats]

end Sys2Proof.Machine.SchedulerLaws
end

section
/-! SUPPORT. What a start makes of each program that waits or held a slot (R69 to R71): first the grants, then the one
preemption there can be. -/

namespace Sys2Proof.Machine.SchedulerLaws

open NoticeLaws RosterLaws

/-- The schedule when the grants are made. -/
@[irreducible] def grantedAt (s : State) (n : Superframe) : Scheduler :=
  s.grantSlots n 12 (afterJoin s n)

theorem scheduledAt_eq (s : State) (n : Superframe) :
    scheduledAt s n = s.preempt n (grantedAt s n) := by
  unfold scheduledAt grantedAt
  rfl

theorem grantedAt_full (s : State) (n : Superframe) :
    (∀ d, (grantedAt s n).holders.get d ≠ none) ∨ (grantedAt s n).waitQueue = [] := by
  unfold grantedAt
  exact grantSlots_full (freeSlots_le _)

/-- No program waits beside a free slot (R70), whatever the state before the start. -/
theorem scheduledAt_full {s : State} {n : Superframe} {d : Fin 12}
    (hd : (scheduledAt s n).holders.get d = none) : (scheduledAt s n).waitQueue = [] := by
  rw [scheduledAt_eq] at hd ⊢
  rcases preempt_cases s n (grantedAt s n) with heq | ⟨c, e, v, -, hc, -, heq⟩
  · rw [heq] at hd ⊢
    exact (grantedAt_full s n).resolve_left fun hfull => hfull d hd
  · have hfull := (grantedAt_full s n).resolve_right (List.ne_nil_of_mem hc)
    rw [heq, preempted_holders, Table.get_set] at hd
    split at hd
    · cases hd
    · exact absurd hd (hfull d)

theorem effectiveTier_allCall {s : State} {c : Fin 32} (hc : (s.program c).allCall = true) :
    s.effectiveTier c = 4 := by
  simp [State.effectiveTier, hc]

theorem effectiveTier_other {s : State} (h : s.ScheduleAgrees) {p : Fin 32}
    (hp : (s.program p).allCall = false) : s.effectiveTier p ≤ 3 := by
  simpa [State.effectiveTier, hp] using h.tiers p

/-- The start ends in a preemption: nothing was granted, and the waiting ALL-CALL program `c` takes slot `d` from its
holder `v` (R71). -/
structure Preempting (s : State) (n : Superframe) (c : Fin 32) (d : Fin 12) (v : Fin 32) : Prop where
  allCall : (s.program c).allCall = true
  waiting : c ∈ queueAt s
  ungranted : ∀ p ∈ queueAt s, ((grantedAt s n).perProgram.get p).holderSlot = none
  holder : (grantedAt s n).holders.get d = some v
  start : scheduledAt s n = preempted n c d v (grantedAt s n)

section
variable {s : State} (h : s.ScheduleAgrees) (n : Superframe)
include h

theorem grantedAt_granting : Granting s.effectiveTier n (afterJoin s n) (grantedAt s n) := by
  have hqueue := afterJoin_queue h n
  unfold grantedAt
  exact grantSlots_granting 12 (hqueue ▸ queueAt_nodup h) (.refl n (afterJoin_agrees h n)
    fun p hp => afterJoin_queued h n (hqueue ▸ hp))

theorem grantedAt_queue : (grantedAt s n).waitQueue = (queueAt s).filter fun p =>
    ((grantedAt s n).perProgram.get p).holderSlot.isNone := by
  rw [(grantedAt_granting h n).queue, afterJoin_queue h]

theorem grantedAt_preemptions : (grantedAt s n).preemptions = s.ats.preemptions := by
  rw [(grantedAt_granting h n).rest]
  exact afterJoin_preemptions h n

theorem grantedAt_unqueued {p : Fin 32} (hp : p ∉ queueAt s) :
    (grantedAt s n).perProgram.get p = (afterJoin s n).perProgram.get p :=
  (grantedAt_granting h n).ungranted p (.inl (afterJoin_queue h n ▸ hp))

theorem grantedAt_ungranted {p : Fin 32}
    (hp : ((grantedAt s n).perProgram.get p).holderSlot = none) :
    (grantedAt s n).perProgram.get p = (afterJoin s n).perProgram.get p :=
  (grantedAt_granting h n).ungranted p (.inr hp)

/-- What a grant says (R70). -/
theorem grantedAt_granted {p : Fin 32} (hp : p ∈ queueAt s) {d : Fin 12}
    (hd : ((grantedAt s n).perProgram.get p).holderSlot = some d) :
    (grantedAt s n).perProgram.get p = grantedFields n d ((afterJoin s n).perProgram.get p) ∧
      (∀ d', d' < d → (grantedAt s n).holders.get d' ≠ none) ∧
      ∀ q ∈ queueAt s, goesBefore s.effectiveTier (queueAt s) q p →
        ∃ d', ((grantedAt s n).perProgram.get q).holderSlot = some d' ∧ d' < d := by
  have hg := (grantedAt_granting h n).granted p
  rw [afterJoin_queue h] at hg
  exact hg hp d hd

/-- While the ALL-CALL program waits, no program is granted a slot. -/
theorem grantedAt_none {c : Fin 32} (hc : (s.program c).allCall = true)
    (hq : c ∈ (grantedAt s n).waitQueue) {p : Fin 32} (hp : p ∈ queueAt s) :
    ((grantedAt s n).perProgram.get p).holderSlot = none := by
  rw [grantedAt_queue h] at hq
  obtain ⟨hcq, hcslot⟩ := List.mem_filter.1 hq
  by_cases hpc : p = c
  · exact Option.isNone_iff_eq_none.1 (hpc ▸ hcslot)
  · cases hd : ((grantedAt s n).perProgram.get p).holderSlot with
    | none => rfl
    | some d =>
      have hp' : (s.program p).allCall = false :=
        Bool.eq_false_iff.2 fun hp' => hpc (h.allCall p c hp' hc)
      have htier : s.effectiveTier p < s.effectiveTier c := by
        rw [effectiveTier_allCall hc]
        exact Nat.lt_succ_of_le (effectiveTier_other h hp')
      obtain ⟨e, he, -⟩ := (grantedAt_granted h n hp hd).2.2 c hcq (.inl htier)
      simp [he] at hcslot

/-- A start ends with its grants or with a preemption. -/
theorem scheduledAt_cases :
    scheduledAt s n = grantedAt s n ∨ ∃ c d v, Preempting s n c d v := by
  have hstart := scheduledAt_eq s n
  rcases preempt_cases s n (grantedAt s n) with heq | ⟨c, d, v, hc, hq, hv, heq⟩
  · exact .inl (hstart.trans heq)
  · exact .inr ⟨c, d, v, {
      allCall := hc
      waiting := (List.mem_filter.1 (grantedAt_queue h n ▸ hq)).1
      ungranted := fun p hp => grantedAt_none h n hc hq hp
      holder := hv
      start := hstart.trans heq }⟩

/-- Beside no ALL-CALL program, a start ends with its grants. -/
theorem scheduledAt_quiet (hno : ∀ q ∈ queueAt s, (s.program q).allCall = false) :
    scheduledAt s n = grantedAt s n := by
  refine (scheduledAt_cases h n).resolve_right fun ⟨c, d, v, hp⟩ => ?_
  simpa [hp.allCall] using hno c hp.waiting

section
variable {n} {c v : Fin 32} {d : Fin 12} (hp : Preempting s n c d v)
include hp

theorem Preempting.queue : (grantedAt s n).waitQueue = queueAt s := by
  rw [grantedAt_queue h, List.filter_eq_self]
  exact fun p hm => by simp [hp.ungranted p hm]

theorem Preempting.victim_slot : ((grantedAt s n).perProgram.get v).holderSlot = some d :=
  ((grantedAt_granting h n).agrees d v).1 hp.holder

/-- Who holds no slot is not the one that gives way. -/
theorem Preempting.ne_victim {p : Fin 32}
    (hslot : ((grantedAt s n).perProgram.get p).holderSlot = none) : p ≠ v := by
  rintro rfl
  simp [hp.victim_slot h] at hslot

theorem Preempting.victim_ne : v ≠ c := (hp.ne_victim h (hp.ungranted c hp.waiting)).symm

theorem Preempting.waitQueue :
    (scheduledAt s n).waitQueue = v :: (queueAt s).filter (· != c) := by
  rw [hp.start, preempted_queue (hp.victim_ne h), hp.queue h]

/-- Who waits beside the ALL-CALL program waits on. -/
theorem Preempting.get_waiter {p : Fin 32} (hq : p ∈ queueAt s) (hc : p ≠ c) :
    (scheduledAt s n).perProgram.get p = (afterJoin s n).perProgram.get p := by
  have hslot := hp.ungranted p hq
  rw [hp.start, preempted_other hc (hp.ne_victim h hslot), grantedAt_ungranted h n hslot]

theorem Preempting.get_taker : (scheduledAt s n).perProgram.get c =
    grantedFields n d ((afterJoin s n).perProgram.get c) := by
  rw [hp.start, preempted_taker (hp.victim_ne h),
    grantedAt_ungranted h n (hp.ungranted c hp.waiting)]

/-- Of the programs that waited, the ALL-CALL program alone has a slot. -/
theorem Preempting.eq_taker {p : Fin 32} (hq : p ∈ queueAt s) {e : Fin 12}
    (he : ((scheduledAt s n).perProgram.get p).holderSlot = some e) : p = c := by
  by_contra hc
  rw [hp.get_waiter h hq hc, afterJoin_queued h n hq] at he
  cases he

end

/-! ## What becomes of each program -/

/-- A program that neither waits nor holds a slot when the grants begin is left out of them. -/
theorem scheduledAt_idle {p : Fin 32} (hq : p ∉ queueAt s)
    (hslot : ((afterJoin s n).perProgram.get p).holderSlot = none) :
    (scheduledAt s n).perProgram.get p = (afterJoin s n).perProgram.get p ∧
      p ∉ (scheduledAt s n).waitQueue := by
  have hfields := grantedAt_unqueued h n hq
  rcases scheduledAt_cases h n with heq | ⟨c, d, v, hp⟩
  · rw [heq, grantedAt_queue h]
    exact ⟨hfields, fun hm => hq (List.mem_filter.1 hm).1⟩
  · have hv : p ≠ v := hp.ne_victim h (by rw [hfields, hslot])
    have hc : p ≠ c := fun hc => hq (hc ▸ hp.waiting)
    rw [hp.waitQueue h, hp.start, preempted_other hc hv]
    exact ⟨hfields, by simp [hv, hq]⟩

/-- A program that waits when the grants begin waits on, or has a slot and waits no more. -/
theorem scheduledAt_queued {p : Fin 32} (hq : p ∈ queueAt s) :
    (p ∈ (scheduledAt s n).waitQueue ∧
        (scheduledAt s n).perProgram.get p = (afterJoin s n).perProgram.get p) ∨
      ∃ d, p ∉ (scheduledAt s n).waitQueue ∧ (scheduledAt s n).perProgram.get p =
        grantedFields n d ((afterJoin s n).perProgram.get p) := by
  rcases scheduledAt_cases h n with heq | ⟨c, d, v, hp⟩
  · rw [heq, grantedAt_queue h]
    cases hd : ((grantedAt s n).perProgram.get p).holderSlot with
    | none => exact .inl ⟨by simp [hq, hd], grantedAt_ungranted h n hd⟩
    | some d => exact .inr ⟨d, by simp [hd], (grantedAt_granted h n hq hd).1⟩
  · rw [hp.waitQueue h]
    by_cases hc : p = c
    · subst hc
      exact .inr ⟨d, by simp [(hp.victim_ne h).symm], hp.get_taker h⟩
    · exact .inl ⟨by simp [hq, hc], hp.get_waiter h hq hc⟩

/-- Whoever goes before a program that is granted a slot is granted a lower one (R70). -/
theorem scheduledAt_order {p q : Fin 32} (hp : p ∈ queueAt s) (hq : q ∈ queueAt s)
    (hbefore : goesBefore s.effectiveTier (queueAt s) p q) {d : Fin 12}
    (hd : ((scheduledAt s n).perProgram.get q).holderSlot = some d) :
    ∃ e, ((scheduledAt s n).perProgram.get p).holderSlot = some e ∧ e < d := by
  rcases scheduledAt_cases h n with heq | ⟨c, e, v, hpre⟩
  · rw [heq] at hd ⊢
    exact (grantedAt_granted h n hq hd).2.2 p hp hbefore
  · obtain rfl := hpre.eq_taker h hq hd
    have htop := effectiveTier_allCall hpre.allCall
    cases hcall : (s.program p).allCall with
    | true =>
      obtain rfl := h.allCall p q hcall hpre.allCall
      rcases hbefore with hlt | ⟨-, hpair⟩
      · exact absurd hlt (lt_irrefl _)
      · exact absurd hpair (not_pair_self (queueAt_nodup h) p)
    | false =>
      have := effectiveTier_other h hcall
      rcases hbefore with hlt | ⟨heq, -⟩ <;> omega

/-- No slot below a granted one is free (R70). -/
theorem scheduledAt_lower {p : Fin 32} (hp : p ∈ queueAt s) {d d' : Fin 12}
    (hd : ((scheduledAt s n).perProgram.get p).holderSlot = some d) (hlt : d' < d) :
    (scheduledAt s n).holders.get d' ≠ none := by
  intro hfree
  have hwait := scheduledAt_full hfree
  rcases scheduledAt_cases h n with heq | ⟨c, e, v, hpre⟩
  · rw [heq] at hd hfree
    exact (grantedAt_granted h n hp hd).2.1 d' hlt hfree
  · simp [hpre.waitQueue h] at hwait

/-! ## ALL-CALL beside slots that all stay held (R71) -/

section
variable {c : Fin 32} (hc : (s.program c).allCall = true) (hcq : c ∈ queueAt s)
  (hheld : ∀ d, ∃ p, s.ats.holders.get d = some p ∧ s.demands p = true)

/-- A holder that demands is held on. -/
theorem grantedAt_holder {p : Fin 32} {d : Fin 12} (hd : s.ats.holders.get d = some p)
    (hp : s.demands p = true) : (grantedAt s n).perProgram.get p =
      { heldOn (s.ats.perProgram.get p) with releaseCountdown := none } := by
  have hslot := (h.slots d p).1 hd
  have hq : p ∉ queueAt s := by simp [mem_queueAt h, hslot]
  rw [grantedAt_unqueued h n hq, afterJoin_holder h n hslot,
    afterRelease_wanted h.slots hslot (wanted_of_demands hp), countFate_demands hp]
  rfl

include hheld

theorem grantedAt_holders : (grantedAt s n).holders = s.ats.holders := by
  refine Table.ext_get fun d => ?_
  obtain ⟨p, hd, hp⟩ := hheld d
  rw [hd, (grantedAt_granting h n).agrees d p, grantedAt_holder h n hd hp]
  exact (h.slots d p).1 hd

include hc hcq

/-- The ALL-CALL program takes the slot of the holder that gives way first. -/
theorem scheduledAt_preempts : ∃ d v, Preempting s n c d v ∧
    ∀ e q, (grantedAt s n).holders.get e = some q → yieldsTo s (grantedAt s n) d v e q := by
  have hholders := grantedAt_holders h n hheld
  have hslot : ((grantedAt s n).perProgram.get c).holderSlot = none := by
    rw [Option.eq_none_iff_forall_ne_some]
    intro d hd
    obtain ⟨p, hp, -⟩ := hheld d
    have hpc := ((grantedAt_granting h n).agrees d c).2 hd
    rw [hholders, hp] at hpc
    obtain rfl := Option.some.inj hpc
    simpa [((mem_queueAt h).1 hcq).2] using (h.slots d p).1 hp
  have hcw : c ∈ (grantedAt s n).waitQueue := by
    rw [grantedAt_queue h]
    simp [hcq, hslot]
  have hfull := (grantedAt_full s n).resolve_right (List.ne_nil_of_mem hcw)
  obtain ⟨d, v, hv, hyields, heq⟩ :=
    preempt_takes (n := n) hc (fun c' hc' => h.allCall c' c hc' hc) hcw hfull
  exact ⟨d, v, {
    allCall := hc
    waiting := hcq
    ungranted := fun p hp => grantedAt_none h n hc hcw hp
    holder := hv
    start := (scheduledAt_eq s n).trans heq }, hyields⟩

end

end

end Sys2Proof.Machine.SchedulerLaws
end

section
/-! The steps of a start, one lemma per clause (R65 to R71). -/

namespace Sys2Proof.Machine.SchedulerLaws

open NoticeLaws RosterLaws

section
variable {s : State} (h : s.ScheduleAgrees) (n : Superframe) {p : Fin 32}
include h

/-! ## Holders (R67, R68) -/

section
variable {d : Fin 12} (hd : (s.ats.perProgram.get p).holderSlot = some d)
include hd

theorem holder_unqueued : p ∉ queueAt s := by simp [mem_queueAt h, hd]

/-- A holder that is released is out of its slot, and does not wait. -/
theorem scheduledAt_gone
    (hgone : (afterRelease s).perProgram.get p = released (s.ats.perProgram.get p)) :
    ((scheduledAt s n).perProgram.get p).holderSlot = none ∧ p ∉ (scheduledAt s n).waitQueue ∧
      (scheduledAt s n).perProgram.get p = released (s.ats.perProgram.get p) := by
  have hjoin := (afterJoin_holder h n hd).trans hgone
  obtain ⟨hfields, hwait⟩ := scheduledAt_idle h n (holder_unqueued h hd) (by rw [hjoin]; rfl)
  rw [hfields, hjoin]
  exact ⟨rfl, hwait, rfl⟩

/-- Beside no ALL-CALL program, a holder is as its release leaves it. -/
theorem scheduledAt_kept (hno : ∀ q ∈ queueAt s, (s.program q).allCall = false) :
    (scheduledAt s n).perProgram.get p = (afterRelease s).perProgram.get p := by
  rw [scheduledAt_quiet h n hno, grantedAt_unqueued h n (holder_unqueued h hd),
    afterJoin_holder h n hd]

end

/-! ## Waiters (R69) -/

section
variable (hq : p ∈ s.ats.waitQueue)
include hq

theorem scheduledAt_idleWaiter (hp : s.demands p = false) : p ∉ (scheduledAt s n).waitQueue ∧
    (scheduledAt s n).perProgram.get p = (s.ats.perProgram.get p).clearWait := by
  have hjoin := afterJoin_idleWaiter h n hq hp
  obtain ⟨hfields, hwait⟩ := scheduledAt_idle h n (p := p) (by simp [mem_queueAt h, hp])
    (by rw [hjoin]; exact waiter_idle h hq)
  exact ⟨hwait, hfields.trans hjoin⟩

theorem scheduledAt_waiter (hp : s.demands p = true) :
    ((scheduledAt s n).perProgram.get p).waitSuperframes =
        bump (s.ats.perProgram.get p).waitSuperframes ∧
      (p ∈ (scheduledAt s n).waitQueue → (scheduledAt s n).perProgram.get p =
        aged s.ats.longWaitLimit (s.ats.perProgram.get p)) := by
  have hjoin := afterJoin_waiter h n hq hp
  rcases scheduledAt_queued h n ((mem_queueAt h).2 ⟨hp, waiter_idle h hq⟩) with
    ⟨-, hfields⟩ | ⟨d, hout, hfields⟩
  · rw [hfields, hjoin]
    exact ⟨rfl, fun _ => rfl⟩
  · rw [hfields, hjoin]
    exact ⟨rfl, fun hin => absurd hin hout⟩

end

/-- The one program that waits on and is due sends its LONG WAIT notice. -/
theorem afterAge_notices (hone : s.ats.waitQueue.filter s.demands = [p])
    (hmark : (s.ats.perProgram.get p).longWaitMark = false)
    (hage : s.ats.longWaitLimit < (s.ats.perProgram.get p).age.waitAge)
    (hqueues : s.Queues (.longWait p (s.program p).tier (s.ats.perProgram.get p).age.waitAge)) :
    (afterAge s n).sli.notices = s.sli.notices ++
      [⟨n, .longWait p (s.program p).tier (s.ats.perProgram.get p).age.waitAge⟩] := by
  have hmem : p ∈ s.ats.waitQueue.filter s.demands := by simp [hone]
  obtain ⟨hq, hp⟩ := List.mem_filter.1 hmem
  have hfields : (afterDrop s).perProgram.get p = s.ats.perProgram.get p := by
    rw [afterDrop_get h, if_neg (by simp [hp]), afterRelease_idle h.slots (waiter_idle h hq)]
  have hlimit : (afterDrop s).longWaitLimit = s.ats.longWaitLimit := by
    rw [afterDrop_rest, afterRelease_rest h.slots]
  obtain ⟨hunmasked, hroom, -⟩ := hqueues
  have hsend : afterAge s n = (ageing p (s.onAts fun _ => afterDrop s)).sendNoticeAt n
      (.longWait p (s.program p).tier (s.ats.perProgram.get p).age.waitAge) := by
    unfold afterAge
    rw [afterDrop_queue h, hone, List.foldl_cons, List.foldl_nil, ageWaiter_eq, State.onAts_ats,
      hfields, hlimit, if_pos ⟨hage, hmark⟩]
    rfl
  rw [hsend, sendNoticeAt_joins (s := ageing p (s.onAts fun _ => afterDrop s)) hunmasked hroom]
  rfl

/-! ## The queue once the grants are made (R70) -/

theorem scheduledAt_waits (hq : p ∈ queueAt s)
    (hslot : ((scheduledAt s n).perProgram.get p).holderSlot = none) :
    p ∈ (scheduledAt s n).waitQueue := by
  rcases scheduledAt_queued h n hq with ⟨hin, -⟩ | ⟨d, -, hfields⟩
  · exact hin
  · rw [hfields] at hslot
    cases hslot

theorem scheduledAt_granted (hq : p ∈ queueAt s) {d : Fin 12}
    (hslot : ((scheduledAt s n).perProgram.get p).holderSlot = some d) :
    p ∉ (scheduledAt s n).waitQueue ∧
      (scheduledAt s n).perProgram.get p = { (scheduledAt s n).perProgram.get p with
        grantSuperframe := some n, heldCount := 0, releaseCountdown := none, waitAge := 0
        longWaitMark := false } := by
  rcases scheduledAt_queued h n hq with ⟨-, hfields⟩ | ⟨e, hout, hfields⟩
  · rw [hfields, afterJoin_queued h n hq] at hslot
    cases hslot
  · refine ⟨hout, ?_⟩
    rw [hfields]
    rfl

end

/-- Settles O35: a start serves the holders, then the wait queue, then grants the free slots, and ends with its grants
or, when the ALL-CALL program waits beside full slots, with a preemption. -/
theorem schedulerStartSteps : Obligations.SchedulerStartSteps := by
  unfold Obligations.SchedulerStartSteps
  simp only [start_holders, start_queue, start_fields, start_preemptions, start_sli]
  refine ⟨demands_iff, fun s n d => scheduledAt_full, fun s n h => ⟨?unwanted, ?ends, ?kept, ?idle, ?ages,
    ?notice, ?waits, ?granted, ?order, ?lower, ?queue, ?preempts⟩⟩
  case unwanted =>
    intro p d hd hw
    exact scheduledAt_gone h n hd
      (afterRelease_unwanted h.slots hd (Bool.eq_false_iff.2 (mt wanted_iff.1 hw)))
  case ends =>
    intro p d hd hw hp
    have hrel := afterRelease_wanted h.slots hd (wanted_iff.2 hw)
    refine ⟨fun c hc h1 => scheduledAt_gone h n hd ?_, fun hc h0 => scheduledAt_gone h n hd ?_⟩
    · rw [hrel, countFate_ends (f := heldOn _) hp hc h1]
      rfl
    · rw [hrel, countFate_at_once (f := heldOn _) hp hc h0]
      rfl
  case kept =>
    intro p d hd hw hno
    have hrel := (scheduledAt_kept h n hd hno).trans
      (afterRelease_wanted h.slots hd (wanted_iff.2 hw))
    refine ⟨fun hp => ?_, fun hp hc h0 => ?_, fun c hp hc h1 => ?_⟩
    · rw [hrel, countFate_demands hp]
      rfl
    · rw [hrel, countFate_begins (f := heldOn _) hp hc h0]
      rfl
    · rw [hrel, countFate_runs (f := heldOn _) hp hc h1]
      rfl
  case idle => exact fun p hq hp => scheduledAt_idleWaiter h n hq hp
  case ages => exact fun p hq hp => scheduledAt_waiter h n hq hp
  case notice => exact fun p hone hmark hage hqueues => afterAge_notices h n hone hmark hage hqueues
  case waits => exact fun p hq hslot => scheduledAt_waits h n hq hslot
  case granted => exact fun p hq d hslot => scheduledAt_granted h n hq hslot
  case order => exact fun p hp q hq d hbefore hslot => scheduledAt_order h n hp hq hbefore hslot
  case lower => exact fun p hq d hslot d' hlt => scheduledAt_lower h n hq hslot hlt
  case queue =>
    intro hno
    rw [scheduledAt_quiet h n hno]
    exact grantedAt_queue h n
  case preempts =>
    intro c hcq hc hheld
    obtain ⟨d, v, hp, hyields⟩ := scheduledAt_preempts h n hc hcq hheld
    have hholders := grantedAt_holders h n hheld
    have hholder {e q} (he : s.ats.holders.get e = some q) :=
      let ⟨_, he', hq'⟩ := hheld e
      grantedAt_holder h n he (Option.some.inj (he'.symm.trans he) ▸ hq')
    have hv : s.ats.holders.get d = some v := hholders ▸ hp.holder
    refine ⟨d, v, hv, fun e q he => ?_, ?_, hp.waitQueue h, ?_, ?_, ?_⟩
    · have hy := hyields e q (hholders ▸ he)
      rw [yieldsTo, hholder hv, hholder he] at hy
      exact hy
    · rw [hp.start, preempted_holders, hholders]
    · rw [hp.start, preempted_victim (hp.victim_ne h), hholder hv]
      rfl
    · rw [hp.get_taker h]
      rfl
    · rw [hp.start, ← grantedAt_preemptions h n]
      rfl

end Sys2Proof.Machine.SchedulerLaws
end
